-- ==== Sys2Proof/Word.lean ====
section
/-! DEFINITION. The words, addresses and small numbers of the GZ440's three interfaces. -/

namespace Sys2Proof

/-- One 32-bit word of the management link's word window (R167). -/
abbrev Word := BitVec 32

/-- One byte of a management-link frame (R165). -/
abbrev Byte := BitVec 8

/-- A line address: a number of 34 bits (00_scope, Numbers and Addresses). -/
abbrev Line := BitVec 34

/-- The 64 bytes of a line. -/
abbrev Data := BitVec 512

/-- A byte mask: one place per byte of the line (R137). -/
abbrev Mask := BitVec 64

/-- A port tag, 0 to 31 (R137). -/
abbrev PortTag := BitVec 5

/-- The bits 23 to 0 of a command word: everything beside the command code (R167, word 2). -/
abbrev CommandArguments := BitVec 24

/-- An upstream port, P0 to P5 (R135). -/
abbrev Port := Fin 6

/-- A valid context, 0 or 1 (R137). -/
abbrev Context := Fin 2

/-- A holder, named by its reservation record number (R26). -/
abbrev Holder := Fin 12

/-- A downstream tag, 0 to 11 (R115). -/
abbrev Tag := Fin 12

/-- A bank record number, 0 to 31 (R87). -/
abbrev BankNo := Fin 32

/-- A guard record number, 0 to 3 (R49). -/
abbrev GuardNo := Fin 4

end Sys2Proof
end

