-- ==== Sys2Proof/Syntax.lean ====
section
/-! DEFINITION. The commands the GZ440 takes, one constructor for each row of spec/opcode_table.json, with their
operands: the messages of the upstream ports and of the downstream link, and the frames of the management link. -/

namespace Sys2Proof

/-- The five request kinds (R137). -/
inductive RequestKind where
  | read
  | readReserve
  | write
  | writeConditional
  | barrier
deriving DecidableEq, Repr

/-- A request message as the requester presents it (R137). The context is carried in two bits, of which only
0 and 1 are valid. The line address and the byte mask may be absent, whatever the kind. -/
structure Request where
  portTag : PortTag
  kind : RequestKind
  context : BitVec 2
  line : Option Line
  mask : Option Mask
  data : Data
deriving DecidableEq, Repr

/-- The outcome a COMPLETION message carries (R119). -/
inductive CompletionOutcome where
  | done
  | doneCorrected
  | dataError
deriving DecidableEq, Repr

/-- A COMPLETION message (R119). The tag is the number the partner names, which may lie above 11. -/
structure Completion where
  tag : Nat
  outcome : CompletionOutcome
  data : Option Data
deriving DecidableEq, Repr

/-- The configuration words, addresses 5 to 15 (R167). -/
inductive ConfigWord where
  | memorySize
  | port (p : Port)
  | banks
  | lifetimes
  | completionTimeout
  | scheduling
deriving DecidableEq, Repr

/-- The words of the window that have no write row of their own: the line argument word, and every read-only
word (R167). -/
inductive OtherWord where
  | identification
  | partState
  | lineArgument
  | commandResult
  | noticeHead
  | noticeDetail
  | noticeStatus
  | readOutDescriptor
  | readOutLine
  | portsLow
  | portsHigh
  | tags
  | banksLow
  | banksHigh
  | grantOrder
  | guardsAndFaults
deriving DecidableEq, Repr

/-- A management-link frame that no row of the table covers (R165): one of no byte at all; one cut short before its
address byte, or a write frame cut short before its fourth data byte; one of a bad operation byte, cut short before its
fourth data byte; and a read frame, of a word whose reading changes no block or cut short at an address outside the
window. `dataBytes` is how many data bytes were shifted before CS_n was deasserted. -/
inductive QuietFrame where
  | empty
  | cutShort
  | badOperation (dataBytes : Nat)
  | read (address : Byte) (dataBytes : Nat)
deriving DecidableEq, Repr

/-- The commands of the table, in its order. A command frame carries the bits 23 to 0 of the command word, which
its command may ignore (R169). -/
inductive Instr where
  /-- POR_N_ASSERTED (R154). -/
  | porNAsserted
  /-- POR_N_DEASSERTED (R131, R154). -/
  | porNDeasserted
  /-- PRST_N_ASSERTED: the change of port p's PRST_n from deasserted to asserted (R146). -/
  | prstNAsserted (p : Port)
  /-- REQUEST: a request message presented at port p (R139). -/
  | request (p : Port) (m : Request)
  /-- DELIVERY: the requester of port p takes the oldest response (R145). -/
  | delivery (p : Port)
  /-- DISPATCH: the scheduler's moment (R102, R104). -/
  | dispatch
  /-- COMPLETION: a completion message arrives (R119). -/
  | completion (m : Completion)
  /-- COMPLETION_TIMEOUT: the completion timer of tag t runs out (R124). -/
  | completionTimeout (t : Tag)
  /-- LINK_UP: the partner's signal (R117). -/
  | linkUp
  /-- LINK_DOWN: the partner's signal (R117). -/
  | linkDown
  /-- RESERVATION_EXPIRY: the lifetime timer of record h runs out (R32). -/
  | reservationExpiry (h : Holder)
  /-- GUARD_EXPIRY: the lifetime timer of guard g runs out (R60). -/
  | guardExpiry (g : GuardNo)
  /-- BANK_RECOVERY_EXPIRY: the recovery timer of bank b runs out (R92). -/
  | bankRecoveryExpiry (b : BankNo)
  /-- GO_ONLINE: command code 1 (R155). -/
  | goOnline (args : CommandArguments)
  /-- DRAIN: command code 2 (R157). -/
  | drain (args : CommandArguments)
  /-- FULL_RESET: command code 3 (R160). -/
  | fullReset (args : CommandArguments)
  /-- PORT_RESET: command code 4 (R146). -/
  | portReset (args : CommandArguments)
  /-- LINK_RESET: command code 5 (R130). -/
  | linkReset (args : CommandArguments)
  /-- CLEAR_FAULT: command code 6 (R80). -/
  | clearFault (args : CommandArguments)
  /-- CLEAR_ALL_FAULTS: command code 7 (R80). -/
  | clearAllFaults (args : CommandArguments)
  /-- UNKNOWN_COMMAND: a command word with code 0 or 8 to 255 (R169). -/
  | unknownCommand (code : Byte) (args : CommandArguments)
  /-- CONFIGURATION_WRITE: a complete write frame to a configuration word (R168). -/
  | configurationWrite (w : ConfigWord) (v : Word)
  /-- NOTICE_MASK_WRITE (R176). -/
  | noticeMaskWrite (v : Word)
  /-- READ_OUT_SELECTOR_WRITE (R171). -/
  | readOutSelectorWrite (v : Word)
  /-- NOTICE_HEAD_READ: a read frame of word 16 whose address byte was received (R165, R175). -/
  | noticeHeadRead (dataBytes : Nat)
  /-- NOTICE_STATUS_READ: a read frame of word 18 whose address byte was received (R165, R175). -/
  | noticeStatusRead (dataBytes : Nat)
  /-- REGISTER_WRITE: a complete write frame to any other word (R167). -/
  | registerWrite (w : OtherWord) (v : Word)
  /-- BAD_ADDRESS: a complete frame with a bad operation byte or an address outside the window (R166). -/
  | badAddress (operation : Byte) (address : Byte)
deriving DecidableEq, Repr

/-- What the bytes of a frame are: a command of the table, or a frame that no row covers (R165). -/
inductive Frame where
  | command (c : Instr)
  | quiet (f : QuietFrame)
deriving DecidableEq, Repr

end Sys2Proof
end

