-- ==== Sys2Proof/Decode.lean ====
section
/-! DEFINITION. What the bytes of a management-link frame spell (R165 to R169), the frame of a command, and the command a
table word spells. The GZ440 is a block: no row of spec/opcode_table.json gives any bits (every row's "fields" is empty and
none has "fixed"), so no table word spells a command. -/

namespace Sys2Proof

/-! ## Words in a frame (R165) -/

/-- The four bytes of a word in the order they are shifted, most significant byte first (R165). -/
def bytesOf (v : Word) : List Byte :=
  [v.extractLsb' 24 8, v.extractLsb' 16 8, v.extractLsb' 8 8, v.extractLsb' 0 8]

/-- The word of four data bytes, the first shifted most significant (R165). -/
def wordOf (b3 b2 b1 b0 : Byte) : Word := b3 ++ b2 ++ b1 ++ b0

/-! ## From a frame to its command -/

/-- The command that a word written to the command word selects by its bits 31 to 24, with its bits 23 to 0 (R169). -/
def commandOfWord (v : Word) : Instr :=
  let args : CommandArguments := v.extractLsb' 0 24
  match (v.extractLsb' 24 8).toNat with
  | 1 => .goOnline args
  | 2 => .drain args
  | 3 => .fullReset args
  | 4 => .portReset args
  | 5 => .linkReset args
  | 6 => .clearFault args
  | 7 => .clearAllFaults args
  | _ => .unknownCommand (v.extractLsb' 24 8) args

/-- The command of a complete write frame with value v to an address of the window, or outside it (R166, R167). -/
def writeCommand (address : Byte) (v : Word) : Instr :=
  match address.toNat with
  | 0 => .registerWrite .identification v
  | 1 => .registerWrite .partState v
  | 2 => commandOfWord v
  | 3 => .registerWrite .lineArgument v
  | 4 => .registerWrite .commandResult v
  | 5 => .configurationWrite .memorySize v
  | 6 => .configurationWrite (.port 0) v
  | 7 => .configurationWrite (.port 1) v
  | 8 => .configurationWrite (.port 2) v
  | 9 => .configurationWrite (.port 3) v
  | 10 => .configurationWrite (.port 4) v
  | 11 => .configurationWrite (.port 5) v
  | 12 => .configurationWrite .banks v
  | 13 => .configurationWrite .lifetimes v
  | 14 => .configurationWrite .completionTimeout v
  | 15 => .configurationWrite .scheduling v
  | 16 => .registerWrite .noticeHead v
  | 17 => .registerWrite .noticeDetail v
  | 18 => .registerWrite .noticeStatus v
  | 19 => .noticeMaskWrite v
  | 20 => .readOutSelectorWrite v
  | 21 => .registerWrite .readOutDescriptor v
  | 22 => .registerWrite .readOutLine v
  | 23 => .registerWrite .portsLow v
  | 24 => .registerWrite .portsHigh v
  | 25 => .registerWrite .tags v
  | 26 => .registerWrite .banksLow v
  | 27 => .registerWrite .banksHigh v
  | 28 => .registerWrite .grantOrder v
  | 29 => .registerWrite .guardsAndFaults v
  | _ => .badAddress 2 address

/-- A read frame whose address byte was received, with n data bytes shifted: the two reads that change a block are
commands, and a complete frame outside the window is one (R165, R166, R175). -/
def decodeRead (address : Byte) (n : Nat) : Frame :=
  match address.toNat with
  | 16 => .command (.noticeHeadRead n)
  | 18 => .command (.noticeStatusRead n)
  | k => if 30 ≤ k ∧ 4 ≤ n then .command (.badAddress 1 address) else .quiet (.read address n)

/-- A write frame whose address byte was received, with its data bytes: it acts when four of them have been shifted, and
those after the fourth are ignored (R165). -/
def decodeWrite (address : Byte) : List Byte → Frame
  | b3 :: b2 :: b1 :: b0 :: _ => .command (writeCommand address (wordOf b3 b2 b1 b0))
  | [] => .quiet .cutShort
  | [_] => .quiet .cutShort
  | [_, _] => .quiet .cutShort
  | [_, _, _] => .quiet .cutShort

/-- What everything shifted while CS_n was asserted is: the operation byte, the address byte and the data bytes
(R165, R166). -/
def decodeFrame : List Byte → Frame
  | [] => .quiet .empty
  | [_] => .quiet .cutShort
  | operation :: address :: data =>
    if operation = 1 then decodeRead address data.length
    else if operation = 2 then decodeWrite address data
    else if 4 ≤ data.length then .command (.badAddress operation address)
    else .quiet (.badOperation data.length)

/-! ## From a command to its frame -/

/-- The address of a configuration word (R167). -/
def ConfigWord.address : ConfigWord → Byte
  | .memorySize => 5
  | .port p => BitVec.ofNat 8 (6 + p.val)
  | .banks => 12
  | .lifetimes => 13
  | .completionTimeout => 14
  | .scheduling => 15

/-- The address of another word (R167). -/
def OtherWord.address : OtherWord → Byte
  | .identification => 0
  | .partState => 1
  | .lineArgument => 3
  | .commandResult => 4
  | .noticeHead => 16
  | .noticeDetail => 17
  | .noticeStatus => 18
  | .readOutDescriptor => 21
  | .readOutLine => 22
  | .portsLow => 23
  | .portsHigh => 24
  | .tags => 25
  | .banksLow => 26
  | .banksHigh => 27
  | .grantOrder => 28
  | .guardsAndFaults => 29

/-- The complete write frame of a value to an address (R165). -/
def writeFrameOf (address : Byte) (v : Word) : List Byte := 2 :: address :: bytesOf v

/-- The complete frame that writes a command code and its arguments to the command word (R169). -/
def commandFrameOf (code : Byte) (args : CommandArguments) : List Byte := writeFrameOf 2 (code ++ args)

/-- The frame of a command that software sends on the management link; none for the commands of the other interfaces. In a
read frame the data bytes on SDI are of no account. -/
def frameOf : Instr → Option (List Byte)
  | .porNAsserted => none
  | .porNDeasserted => none
  | .prstNAsserted _ => none
  | .request _ _ => none
  | .delivery _ => none
  | .dispatch => none
  | .completion _ => none
  | .completionTimeout _ => none
  | .linkUp => none
  | .linkDown => none
  | .reservationExpiry _ => none
  | .guardExpiry _ => none
  | .bankRecoveryExpiry _ => none
  | .goOnline args => some (commandFrameOf 1 args)
  | .drain args => some (commandFrameOf 2 args)
  | .fullReset args => some (commandFrameOf 3 args)
  | .portReset args => some (commandFrameOf 4 args)
  | .linkReset args => some (commandFrameOf 5 args)
  | .clearFault args => some (commandFrameOf 6 args)
  | .clearAllFaults args => some (commandFrameOf 7 args)
  | .unknownCommand code args => some (commandFrameOf code args)
  | .configurationWrite w v => some (writeFrameOf w.address v)
  | .noticeMaskWrite v => some (writeFrameOf 19 v)
  | .readOutSelectorWrite v => some (writeFrameOf 20 v)
  | .noticeHeadRead n => some (1 :: 16 :: List.replicate n 0)
  | .noticeStatusRead n => some (1 :: 18 :: List.replicate n 0)
  | .registerWrite w v => some (writeFrameOf w.address v)
  | .badAddress operation address => some [operation, address, 0, 0, 0, 0]

/-! ## Table words -/

/-- The table gives no row any bits, so no word spells a command. -/
def decodeTableWord (_nbits _w : Nat) : Option Instr := none

end Sys2Proof
end

