-- ==== Sys2Proof/Config.lean ====
section
/-! DEFINITION. What the GZ440 fixes for every part: the capacities of its collections and the identification word.
The manual leaves no result of a command without a value, so this file holds no free value. -/

namespace Sys2Proof.Config

/-- Entries of the pending request table (R1). -/
def tableCapacity : Nat := 64

/-- Places of a port's response queue (R135). -/
def responsePlaces : Nat := 8

/-- Records of the fault list (R68). -/
def faultCapacity : Nat := 8

/-- Entries of the notice queue (R173). -/
def noticeCapacity : Nat := 16

/-- The largest count of a notice entry (R173). -/
def noticeCountMax : Nat := 255

/-- Entries the guaranteed reserve keeps for each ACTIVE port (R143). -/
def reservePerPort : Nat := 2

/-- The identification word: part number 440, vendor code 71, revision 1 (R167, word 0). -/
def identification : Word := BitVec.ofNat 32 (440 * 2 ^ 16 + 71 * 2 ^ 8 + 1)

/-- The bits of the notice mask word that name a notice kind, 1 to 13 (R167, word 19). -/
def noticeMaskBits : Word := 0x3FFE#32

end Sys2Proof.Config
end

