-- ==== Sys2Proof/Machine/State.lean ====
section
/-! DEFINITION. The state of the GZ440 as plain data: every record, queue, list, counter and word the manual gives
its blocks, the pins and wires the model needs, and the queue of waiting commands. -/

namespace Sys2Proof.Machine

open Sys2Proof

/-! ## The part and its configuration -/

/-- The part states (R152). -/
inductive PartState where
  | offline
  | online
  | draining
  | quiesced
deriving DecidableEq, Repr

/-- The link states (R117). -/
inductive LinkState where
  | down
  | up
deriving DecidableEq, Repr

/-- The two port orders (R13). -/
inductive PortOrder where
  | line
  | strict
deriving DecidableEq, Repr

/-- A port's configuration (R135). -/
structure PortConfig where
  enable : Bool
  order : PortOrder
  quota : Nat
deriving DecidableEq, Repr

/-- The active bank counts (R83). -/
inductive BankCount where
  | eight
  | sixteen
  | thirtyTwo
deriving DecidableEq, Repr

/-- The bank mappings (R83). -/
inductive BankMapping where
  | linear
  | folded
deriving DecidableEq, Repr

/-- The configuration items (R162), but for the notice mask, which the notice queue holds. The recovery interval is
in steps of 10 ns, the two lifetimes and the completion timeout in µs. -/
structure Configuration where
  memorySizeLog2 : Nat
  ports : Vector PortConfig 6
  bankCount : BankCount
  bankMapping : BankMapping
  foldShift : Nat
  recoveryInterval : Nat
  reservationLifetime : Nat
  guardLifetime : Nat
  completionTimeout : Nat
  bypassLimit : Nat
  failureThreshold : Nat
deriving DecidableEq, Repr

/-- Every item at its power-on value (R162). -/
def Configuration.powerOn : Configuration where
  memorySizeLog2 := 32
  ports := Vector.replicate 6 ⟨false, .line, 16⟩
  bankCount := .sixteen
  bankMapping := .linear
  foldShift := 8
  recoveryInterval := 4
  reservationLifetime := 64
  guardLifetime := 128
  completionTimeout := 1000
  bypassLimit := 8
  failureThreshold := 4

/-! ## Ports -/

/-- The port states (R135). -/
inductive PortState where
  | disabled
  | active
  | fenced
deriving DecidableEq, Repr

/-- The response statuses (R138). -/
inductive Status where
  | ok
  | okCorrected
  | failed
  | poisoned
  | timeout
  | aborted
  | retry
  | refused
deriving DecidableEq, Repr

/-- The reasons of RETRY and REFUSED (R138). -/
inductive Reason where
  | portDisabled
  | portFenced
  | notOnline
  | badForm
  | outOfRange
  | tagInUse
  | tableFull
deriving DecidableEq, Repr

/-- A response message (R138). -/
structure Response where
  portTag : PortTag
  status : Status
  reason : Option Reason
  data : Option Data
  immediate : Bool
deriving DecidableEq, Repr

/-- What a port interface holds beside its configuration: its state and its response queue, oldest first (R135). -/
structure PortRecord where
  state : PortState
  responses : List Response
deriving DecidableEq, Repr

/-! ## The pending request table -/

/-- The hold causes of a HELD entry (R8). -/
structure HoldCauses where
  line : Bool
  portOrder : Bool
  barrier : Bool
deriving DecidableEq, Repr

/-- The states of an entry with what each state carries (R2, R5). A DEFERRED entry stands on the deferred list of the
guard it names. An ANSWERED entry holds its status and the place in which it was answered (R20). -/
inductive EntryState where
  | deferred (g : GuardNo)
  | held (causes : HoldCauses)
  | ready
  | issued (t : Tag)
  | orphaned (t : Tag)
  | answered (status : Status) (place : Nat)
deriving DecidableEq, Repr

/-- An entry of the pending request table (R2). -/
structure Entry where
  port : Port
  portTag : PortTag
  context : Context
  kind : RequestKind
  line : Option Line
  mask : Option Mask
  data : Option Data
  arrival : Nat
  state : EntryState
  bypass : Nat
deriving DecidableEq, Repr

/-! ## Reservations, guards and faults -/

/-- Why a reservation record was broken (R27). -/
inductive BreakReason where
  | conflict
  | expired
  | fault
  | readFailed
deriving DecidableEq, Repr

/-- The state of a reservation record with the fields it carries. `timer` is the interval, in µs, with which the
running lifetime timer was started (R27, R29). -/
inductive ReservationState where
  | idle
  | live (line : Line) (timer : Nat)
  | broken (line : Line) (reason : BreakReason)
deriving DecidableEq, Repr

/-- A reservation record (R27). -/
structure Reservation where
  state : ReservationState
  failures : Nat
deriving DecidableEq, Repr

/-- A guard record (R50). `timer` is the interval, in µs, of the running lifetime timer. The deferred list is the
DEFERRED entries that name the record, in arrival order (R56). -/
inductive GuardRecord where
  | free
  | active (line : Line) (owner : Holder) (timer : Nat)
deriving DecidableEq, Repr

/-- The causes of a fault record (R68). -/
inductive FaultCause where
  | readError
  | writeError
  | writeTimeout
  | writeAborted
deriving DecidableEq, Repr

/-- A fault record (R68). -/
structure FaultRecord where
  line : Line
  cause : FaultCause
  port : Port
deriving DecidableEq, Repr

/-! ## Banks, tags and the link -/

/-- A bank record (R87). `timer` is the interval, in 10 ns steps, of the running recovery timer. -/
inductive BankRecord where
  | idle
  | busy (t : Tag)
  | recovering (timer : Nat)
deriving DecidableEq, Repr

/-- The operation sent on the downstream link (R108). -/
inductive LinkOperation where
  | read
  | write
deriving DecidableEq, Repr

/-- A downstream tag record (R115). A BUSY tag names its bound entry by the entry's place in the arrival order, and
holds the interval, in µs, of the running completion timer. A QUARANTINED tag holds its timed-out marker. -/
inductive TagRecord where
  | free
  | busy (entry : Nat) (timer : Nat)
  | quarantined (operation : LinkOperation) (line : Line) (port : Port)
deriving DecidableEq, Repr

/-- A message the part sends on the downstream link: a DISPATCH (R118) or the signal LINK_RESET (R130). -/
inductive LinkMessage where
  | dispatch (t : Tag) (operation : LinkOperation) (line : Line) (mask : Option Mask) (data : Option Data)
  | linkReset
deriving DecidableEq, Repr

/-! ## Notices and the management link -/

/-- The notice kinds 1 to 13 (R174). NONE is what a read of an empty queue returns and is no kind of an entry. -/
inductive NoticeKind where
  | guardGranted
  | guardRefused
  | guardExpired
  | faultRecorded
  | faultListFull
  | correctedData
  | completionTimeout
  | lateCompletion
  | strayCompletion
  | tagInUse
  | linkDown
  | drainDone
  | portResetDone
deriving DecidableEq, Repr

/-- Why an escalation was refused (R52). -/
inductive RefusalReason where
  | lineGuarded
  | tableFull
deriving DecidableEq, Repr

/-- The detail of a notice, of the form its kind gives (R174). -/
inductive Detail where
  | none
  | line (l : Line)
  | refusedLine (l : Line) (reason : RefusalReason)
  | tag (number : Nat)
  | portTag (t : PortTag)
deriving DecidableEq, Repr

/-- An entry of the notice queue (R173). -/
structure Notice where
  kind : NoticeKind
  port : Option Port
  count : Nat
  detail : Detail
deriving DecidableEq, Repr

/-- The notice queue, oldest entry first, with the overflow flag and the notice mask word (R173). -/
structure NoticeQueue where
  entries : List Notice
  overflow : Bool
  mask : Word
deriving DecidableEq, Repr

/-- The results of a command (R167, word 4). -/
inductive CommandResult where
  | none
  | done
  | stateError
  | configInvalid
  | badArgument
deriving DecidableEq, Repr

/-- The status of a frame (R166). -/
inductive FrameStatus where
  | ok
  | denied
  | badAddress
deriving DecidableEq, Repr

/-- The read-out classes (R171). -/
inductive ReadOutClass where
  | tag
  | reservation
  | guard
  | fault
  | bank
deriving DecidableEq, Repr

/-- What the management link interface holds for itself: the command result word, the line argument word, the notice
detail word, the read-out selector and the held frame status (R165 to R171). -/
structure ManagementLink where
  result : CommandResult
  resultCode : Byte
  lineArgument : Word
  noticeDetail : Word
  selectorClass : ReadOutClass
  selectorIndex : BitVec 5
  frameStatus : FrameStatus
deriving DecidableEq, Repr

/-- What one frame shifted out on SDO: the status byte of the frame before it, and the data bytes of a read
(R165, R166). -/
structure FrameOut where
  status : FrameStatus
  data : List Byte
deriving DecidableEq, Repr

/-! ## The whole state -/

/-- The state of the part. `entries` stands in arrival order. `wires`, `frames`, `linkOut`, `delivered`, `frameOut`
and `pending` are the model's own: what waits at the part's inputs, and what has left at its outputs, oldest first. A frame
is the bytes shifted in on SDI while CS_n was asserted.
`nextArrival` and `nextAnswer` are the next positions in the arrival order and in the order of answers. -/
structure State where
  porAsserted : Bool
  partState : PartState
  config : Configuration
  ports : Vector PortRecord 6
  entries : List Entry
  nextArrival : Nat
  nextAnswer : Nat
  reservations : Vector Reservation 12
  guards : Vector GuardRecord 4
  faults : List FaultRecord
  banks : Vector BankRecord 32
  grantOrder : List Port
  tags : Vector TagRecord 12
  link : LinkState
  notices : NoticeQueue
  mgmt : ManagementLink
  wires : Vector (List Request) 6
  frames : List (List Byte)
  linkOut : List LinkMessage
  delivered : List (Port × Response)
  frameOut : List FrameOut
  pending : List Instr
deriving DecidableEq, Repr

/-- The reasons of a fault. There is none: the manual gives every command of the table an effect in every state, and
no address of the part is without a meaning (word addresses outside the window have one of their own, R166). -/
inductive Fault where
deriving DecidableEq, Repr

/-- The reasons of a refusal. -/
inductive Refusal where
  /-- Raised by `exec` alone, for a command without a meaning yet. Safe: the model stops. No arm raises it now. -/
  | notModelled (mnemonic : String)
  /-- Raised by the meanings of UNKNOWN_COMMAND and BAD_ADDRESS for a term that is not well formed: its operands
  spell a command of another row, so no frame is this command. Safe: the model stops where there is no command. -/
  | illFormed
deriving DecidableEq, Repr

/-- The grant order list after power-on and FULL_RESET (R99). -/
def resetGrantOrder : List Port := [0, 1, 2, 3, 4, 5]

/-- The part at the end of power-on (R154), with nothing at its inputs and LINK_RESET sent to the partner as POR_n was
deasserted (R131). -/
def State.reset : State where
  porAsserted := false
  partState := .offline
  config := Configuration.powerOn
  ports := Vector.replicate 6 ⟨.disabled, []⟩
  entries := []
  nextArrival := 0
  nextAnswer := 0
  reservations := Vector.replicate 12 ⟨.idle, 0⟩
  guards := Vector.replicate 4 .free
  faults := []
  banks := Vector.replicate 32 .idle
  grantOrder := resetGrantOrder
  tags := Vector.replicate 12 .free
  link := .down
  notices := ⟨[], false, 0⟩
  mgmt := ⟨.none, 0, 0, 0, .tag, 0, .ok⟩
  wires := Vector.replicate 6 []
  frames := []
  linkOut := [.linkReset]
  delivered := []
  frameOut := []
  pending := []

end Sys2Proof.Machine
end

