-- ==== Sys2Proof/Machine/Flags.lean ====
section
/-! DEFINITION. The codes and pins by which the part shows its states: the ALERT output, the frame status byte, and
the code of every state, kind, cause and reason in the word window (R166, R167, R171, R174, R177). -/

namespace Sys2Proof.Machine

open Sys2Proof

/-- The ALERT output: asserted while the notice queue holds an entry, and deasserted while POR_n is asserted (R177). -/
def State.alert (s : State) : Bool := !s.porAsserted && !s.notices.entries.isEmpty

/-- The status byte of a frame (R166). -/
def FrameStatus.byte : FrameStatus → Byte
  | .ok => 0
  | .denied => 1
  | .badAddress => 2

/-- The part state in word 1. -/
def PartState.code : PartState → Nat
  | .offline => 0
  | .online => 1
  | .draining => 2
  | .quiesced => 3

/-- The link state in word 1. -/
def LinkState.isUp : LinkState → Bool
  | .down => false
  | .up => true

/-- The port state in words 23 and 24. -/
def PortState.code : PortState → Nat
  | .disabled => 0
  | .active => 1
  | .fenced => 2

/-- The result in word 4. -/
def CommandResult.code : CommandResult → Nat
  | .none => 0
  | .done => 1
  | .stateError => 2
  | .configInvalid => 3
  | .badArgument => 4

/-- The tag state in word 25 and in the descriptor. -/
def TagRecord.code : TagRecord → Nat
  | .free => 0
  | .busy _ _ => 1
  | .quarantined _ _ _ => 2

/-- The bank state in words 26 and 27 and in the descriptor. -/
def BankRecord.code : BankRecord → Nat
  | .idle => 0
  | .busy _ => 1
  | .recovering _ => 2

/-- The reservation state in the descriptor. -/
def ReservationState.code : ReservationState → Nat
  | .idle => 0
  | .live _ _ => 1
  | .broken _ _ => 2

/-- The break reason in the descriptor. -/
def BreakReason.code : BreakReason → Nat
  | .conflict => 1
  | .expired => 2
  | .fault => 3
  | .readFailed => 4

/-- The fault cause in the descriptor. -/
def FaultCause.code : FaultCause → Nat
  | .readError => 1
  | .writeError => 2
  | .writeTimeout => 3
  | .writeAborted => 4

/-- The codes of the notice kinds (R174). -/
def NoticeKind.code : NoticeKind → Nat
  | .guardGranted => 1
  | .guardRefused => 2
  | .guardExpired => 3
  | .faultRecorded => 4
  | .faultListFull => 5
  | .correctedData => 6
  | .completionTimeout => 7
  | .lateCompletion => 8
  | .strayCompletion => 9
  | .tagInUse => 10
  | .linkDown => 11
  | .drainDone => 12
  | .portResetDone => 13

/-- The refusal reason in word 16; 0 for a detail that carries none. -/
def Detail.refusalCode : Detail → Nat
  | .none => 0
  | .line _ => 0
  | .refusedLine _ .lineGuarded => 1
  | .refusedLine _ .tableFull => 2
  | .tag _ => 0
  | .portTag _ => 0

/-- Bits 33–32 of a line detail; 0 for the other details. -/
def Detail.lineHigh : Detail → Nat
  | .none => 0
  | .line l => l.toNat / 2 ^ 32
  | .refusedLine l _ => l.toNat / 2 ^ 32
  | .tag _ => 0
  | .portTag _ => 0

/-- The notice detail word of a detail: line bits 31–0, the tag number or the port tag, or 0 (R175). -/
def Detail.word : Detail → Word
  | .none => 0
  | .line l => l.extractLsb' 0 32
  | .refusedLine l _ => l.extractLsb' 0 32
  | .tag n => BitVec.ofNat 32 n
  | .portTag t => t.setWidth 32

/-- The port field of word 16: 7 for a notice without a port. -/
def noticePortCode : Option Port → Nat
  | none => 7
  | some p => p.val

end Sys2Proof.Machine
end

