-- ==== Sys2Proof/Machine/Operands.lean ====
section
/-! DEFINITION. The fields of the words a command carries: command arguments, configuration words, the read-out
selector, and the fields of a request message that the arrival checks look at (R137, R167, R169, R171). -/

namespace Sys2Proof.Machine

open Sys2Proof

/-! ## Bit fields -/

/-- The bits hi to lo of a word, as a number. -/
def field (v : Word) (hi lo : Nat) : Nat := v.toNat / 2 ^ lo % 2 ^ (hi + 1 - lo)

/-- The number n placed with its least significant bit at bit lo of a word. -/
def place (n lo : Nat) : Word := BitVec.ofNat 32 (n * 2 ^ lo)

/-- One bit of a word. -/
def flag (b : Bool) (at' : Nat) : Word := place b.toNat at'

/-! ## Command arguments (R167, word 2; R169) -/

/-- The port argument, bits 18 to 16 of the command word. -/
def portArgument (args : CommandArguments) : Nat := args.toNat / 2 ^ 16 % 8

/-- The port a PORT_RESET names: none for a port argument of 6 or 7 (R169). -/
def namedPort (args : CommandArguments) : Option Port :=
  if h : portArgument args < 6 then some ⟨portArgument args, h⟩ else none

/-- The line a CLEAR_FAULT names: bits 33–32 are bits 1–0 of the command word, the rest is the line argument word
(R169). -/
def namedLine (args : CommandArguments) (lineArgument : Word) : Line :=
  args.extractLsb' 0 2 ++ lineArgument

/-! ## Holders (R26) -/

/-- The holder (Pp, context c) is record 2p + c (R26). -/
def holderOf (p : Port) (c : Context) : Holder := ⟨2 * p.val + c.val, by omega⟩

/-- The port of a holder. -/
def portOf (h : Holder) : Port := ⟨h.val / 2, by omega⟩

/-! ## Request messages (R137, R141) -/

/-- A request is malformed when it carries a mask and is not a WRITE, when it is a BARRIER with a line, when it is
another kind without a line, or when its context is 2 or 3 (R141). -/
def malformed (m : Request) : Bool :=
  (m.mask.isSome && m.kind != .write) ||
  (m.kind == .barrier && m.line.isSome) ||
  (m.kind != .barrier && m.line.isNone) ||
  decide (2 ≤ m.context.toNat)

/-- The context of a well-formed request. -/
def validContext (m : Request) : Context := ⟨m.context.toNat % 2, Nat.mod_lt _ (by decide)⟩

/-- The data an entry keeps from its request: a write's 64 bytes; the data of other kinds is dropped (R2, R137). -/
def keptData (m : Request) : Option Data :=
  match m.kind with
  | .write => some m.data
  | .writeConditional => some m.data
  | .read => none
  | .readReserve => none
  | .barrier => none

/-- READ or READ_RESERVE. -/
def isRead : RequestKind → Bool
  | .read => true
  | .readReserve => true
  | .write => false
  | .writeConditional => false
  | .barrier => false

/-- WRITE or WRITE_CONDITIONAL. -/
def isWrite : RequestKind → Bool
  | .read => false
  | .readReserve => false
  | .write => true
  | .writeConditional => true
  | .barrier => false

/-- The kinds that a guard defers: WRITE, WRITE_CONDITIONAL and READ_RESERVE (R55). -/
def isDeferrable : RequestKind → Bool
  | .read => false
  | .readReserve => true
  | .write => true
  | .writeConditional => true
  | .barrier => false

/-! ## Configuration words (R167, R168) -/

/-- The number of banks a count stands for (R83). -/
def BankCount.banks : BankCount → Nat
  | .eight => 8
  | .sixteen => 16
  | .thirtyTwo => 32

/-- The code of a bank count in word 12. -/
def BankCount.code : BankCount → Nat
  | .eight => 0
  | .sixteen => 1
  | .thirtyTwo => 2

/-- The bank count of a code in word 12: code 3 is out of range (R168). -/
def BankCount.ofCode : Nat → Option BankCount
  | 0 => some .eight
  | 1 => some .sixteen
  | 2 => some .thirtyTwo
  | _ => none

/-- The configuration that a frame to word w with value v would store, or none when a field of the word lies outside
its range (R161, R168). The fields of the other words keep their values. -/
def Configuration.write (c : Configuration) (w : ConfigWord) (v : Word) : Option Configuration :=
  match w with
  | .memorySize =>
    let n := field v 5 0
    if 26 ≤ n ∧ n ≤ 40 then some { c with memorySizeLog2 := n } else none
  | .port p =>
    let quota := field v 13 8
    if 4 ≤ quota ∧ quota ≤ 40 then
      some { c with ports := c.ports.set p ⟨v.getLsbD 0, if v.getLsbD 1 then .strict else .line, quota⟩ }
    else none
  | .banks =>
    match BankCount.ofCode (field v 1 0) with
    | none => none
    | some count =>
      let shift := field v 12 8
      if 6 ≤ shift ∧ shift ≤ 20 then
        some { c with
          bankCount := count
          bankMapping := if v.getLsbD 4 then .folded else .linear
          foldShift := shift
          recoveryInterval := field v 21 16 }
      else none
  | .lifetimes =>
    if 1 ≤ field v 9 0 ∧ 1 ≤ field v 25 16 then
      some { c with reservationLifetime := field v 9 0, guardLifetime := field v 25 16 }
    else none
  | .completionTimeout =>
    if 1 ≤ field v 15 0 then some { c with completionTimeout := field v 15 0 } else none
  | .scheduling =>
    if 1 ≤ field v 4 0 ∧ 1 ≤ field v 11 8 then
      some { c with bypassLimit := field v 4 0, failureThreshold := field v 11 8 }
    else none

/-- A configuration word as a read returns it: its stored fields, with every unnamed bit 0 (R167, R168). -/
def Configuration.word (c : Configuration) : ConfigWord → Word
  | .memorySize => place c.memorySizeLog2 0
  | .port p =>
    flag c.ports[p].enable 0 ||| flag (c.ports[p].order == .strict) 1 ||| place c.ports[p].quota 8
  | .banks =>
    place c.bankCount.code 0 ||| flag (c.bankMapping == .folded) 4 ||| place c.foldShift 8 |||
      place c.recoveryInterval 16
  | .lifetimes => place c.reservationLifetime 0 ||| place c.guardLifetime 16
  | .completionTimeout => place c.completionTimeout 0
  | .scheduling => place c.bypassLimit 0 ||| place c.failureThreshold 8

/-! ## The read-out selector (R171) -/

/-- The class of a selector code; codes 5 to 7 name none. -/
def ReadOutClass.ofCode : Nat → Option ReadOutClass
  | 0 => some .tag
  | 1 => some .reservation
  | 2 => some .guard
  | 3 => some .fault
  | 4 => some .bank
  | _ => none

/-- The code of a class. -/
def ReadOutClass.code : ReadOutClass → Nat
  | .tag => 0
  | .reservation => 1
  | .guard => 2
  | .fault => 3
  | .bank => 4

/-- How many indexes a class has: tags 0 to 11, reservation records 0 to 11, guard records 0 to 3, fault positions
0 to 7, banks 0 to 31. -/
def ReadOutClass.size : ReadOutClass → Nat
  | .tag => 12
  | .reservation => 12
  | .guard => 4
  | .fault => 8
  | .bank => 32

/-- The class and index a selector word names, or none when the class or the index is out of range. -/
def selectorOf (v : Word) : Option (ReadOutClass × BitVec 5) :=
  match ReadOutClass.ofCode (field v 2 0) with
  | none => none
  | some c => if field v 12 8 < c.size then some (c, BitVec.ofNat 5 (field v 12 8)) else none

end Sys2Proof.Machine
end

