-- ==== Sys2Proof/Machine/Ops.lean ====
section
/-! DEFINITION. The named operations over the part's records: setters, the notice queue's post, reservation records,
the fault list, banks and their mapping, tags, response queues, and the table's report of emptiness. -/

namespace Sys2Proof.Machine

open Sys2Proof

/-! ## Setters -/

/-- The table with its entries replaced. -/
def State.setEntries (s : State) (es : List Entry) : State := { s with entries := es }

/-- Port p's record replaced. -/
def State.setPort (s : State) (p : Port) (r : PortRecord) : State := { s with ports := s.ports.set p r }

/-- Reservation record h replaced. -/
def State.setReservation (s : State) (h : Holder) (r : Reservation) : State :=
  { s with reservations := s.reservations.set h r }

/-- Guard record g replaced. -/
def State.setGuard (s : State) (g : GuardNo) (r : GuardRecord) : State := { s with guards := s.guards.set g r }

/-- Bank record b replaced. -/
def State.setBank (s : State) (b : BankNo) (r : BankRecord) : State := { s with banks := s.banks.set b r }

/-- Tag record t replaced. -/
def State.setTag (s : State) (t : Tag) (r : TagRecord) : State := { s with tags := s.tags.set t r }

/-- A message leaves on the downstream link. -/
def State.send (s : State) (m : LinkMessage) : State := { s with linkOut := s.linkOut ++ [m] }

/-! ## Notices (R173, R174) -/

/-- A kind is masked when its bit of the mask word is set (R167, word 19). -/
def NoticeQueue.masked (q : NoticeQueue) (k : NoticeKind) : Bool := q.mask.getLsbD k.code

/-- The entry is of kind k and of port p, where no port counts as one port of its own (R173). -/
def Notice.isOf (n : Notice) (k : NoticeKind) (p : Option Port) : Bool := n.kind == k && n.port == p

/-- The count raised by one, staying at 255 (R174). -/
def Notice.raised (n : Notice) : Notice :=
  { n with count := if n.count < Config.noticeCountMax then n.count + 1 else n.count }

/-- A post of kind k for port p with detail d (R174). -/
def NoticeQueue.post (q : NoticeQueue) (k : NoticeKind) (p : Option Port) (d : Detail) : NoticeQueue :=
  if q.masked k then q
  else if q.entries.any (fun n => n.isOf k p) then
    { q with entries := q.entries.map (fun n => if n.isOf k p then n.raised else n) }
  else if q.entries.length < Config.noticeCapacity then
    { q with entries := q.entries ++ [⟨k, p, 1, d⟩] }
  else { q with overflow := true }

/-- A post by a block of the part (R174). -/
def State.post (s : State) (k : NoticeKind) (p : Option Port) (d : Detail) : State :=
  { s with notices := s.notices.post k p d }

/-! ## Reservation records -/

/-- The record after a happening that breaks the records LIVE on line l (R27): a BROKEN or IDLE record, and one
LIVE on another line, stay as they are. -/
def Reservation.break (r : Reservation) (l : Line) (why : BreakReason) : Reservation :=
  match r.state with
  | .live l' _ => if l' = l then { r with state := .broken l why } else r
  | .idle => r
  | .broken _ _ => r

/-- The record is LIVE on line l. -/
def Reservation.isLiveOn (r : Reservation) (l : Line) : Bool :=
  match r.state with
  | .live l' _ => l' == l
  | .idle => false
  | .broken _ _ => false

/-- Every record LIVE on l is broken with FAULT (R33). -/
def State.breakForFault (s : State) (l : Line) : State :=
  { s with reservations := s.reservations.mapIdx (fun _ r => r.break l .fault) }

/-- Every record LIVE on l of a holder other than h is broken with CONFLICT (R31). -/
def State.breakForConflict (s : State) (h : Holder) (l : Line) : State :=
  { s with reservations := s.reservations.mapIdx (fun i r => if i = h.val then r else r.break l .conflict) }

/-- Holder h's record becomes LIVE on l with its timer started afresh; its failure count stays (R28, R29). -/
def State.reserve (s : State) (h : Holder) (l : Line) : State :=
  s.setReservation h { s.reservations[h] with state := .live l s.config.reservationLifetime }

/-- Holder h's record is broken with READ_FAILED if it is LIVE on l (R30). -/
def State.breakReadFailed (s : State) (h : Holder) (l : Line) : State :=
  s.setReservation h (s.reservations[h].break l .readFailed)

/-- Both records of port p become IDLE with failure counts 0 (R44). -/
def State.clearHolders (s : State) (p : Port) : State :=
  (s.setReservation (holderOf p 0) ⟨.idle, 0⟩).setReservation (holderOf p 1) ⟨.idle, 0⟩

/-- A failure count above the threshold is set to it (R37). -/
def Reservation.cap (r : Reservation) (threshold : Nat) : Reservation :=
  { r with failures := if threshold < r.failures then threshold else r.failures }

/-! ## Guards -/

/-- The guard record numbers. -/
def allGuards : List GuardNo := [0, 1, 2, 3]

/-- The record is ACTIVE on line l. -/
def GuardRecord.guards (r : GuardRecord) (l : Line) : Bool :=
  match r with
  | .free => false
  | .active l' _ _ => l' == l

/-- The record is ACTIVE and owned by h. -/
def GuardRecord.ownedBy (r : GuardRecord) (h : Holder) : Bool :=
  match r with
  | .free => false
  | .active _ o _ => o == h

/-- The record is ACTIVE and owned by a holder of port p. -/
def GuardRecord.ownedByPort (r : GuardRecord) (p : Port) : Bool :=
  match r with
  | .free => false
  | .active _ o _ => portOf o == p

/-- The guard on line l, if one is ACTIVE (R49: there is at most one). -/
def State.guardOn (s : State) (l : Line) : Option GuardNo := allGuards.find? (fun g => s.guards[g].guards l)

/-- The lowest-numbered FREE guard record (R51). -/
def State.freeGuard (s : State) : Option GuardNo := allGuards.find? (fun g => s.guards[g] == .free)

/-- The deferred list of guard g: the DEFERRED entries that name it, in arrival order (R56). -/
def State.deferredList (s : State) (g : GuardNo) : List Entry := s.entries.filter (fun e => e.state == .deferred g)

/-- An escalation request of holder h for line l: the grant (R51), or the refusal (R52). -/
def State.escalate (s : State) (h : Holder) (l : Line) : State :=
  match s.guardOn l with
  | some _ => s.post .guardRefused (some (portOf h)) (.refusedLine l .lineGuarded)
  | none =>
    match s.freeGuard with
    | some g =>
      (s.setGuard g (.active l h s.config.guardLifetime)).post .guardGranted (some (portOf h)) (.line l)
    | none => s.post .guardRefused (some (portOf h)) (.refusedLine l .tableFull)

/-! ## The fault list (R68 to R80) -/

/-- Line l is on the fault list. -/
def State.listed (s : State) (l : Line) : Bool := s.faults.any (fun f => f.line == l)

/-- The list change and the notice of a fault on line l (R75). -/
def State.listFault (s : State) (l : Line) (cause : FaultCause) (p : Port) : State :=
  if s.listed l then s
  else if s.faults.length < Config.faultCapacity then
    State.post { s with faults := s.faults ++ [⟨l, cause, p⟩] } .faultRecorded (some p) (.line l)
  else s.post .faultListFull (some p) (.line l)

/-- A fault on line l is recorded with a cause and a port, and every record LIVE on l is broken (R75, R33). -/
def State.recordFault (s : State) (l : Line) (cause : FaultCause) (p : Port) : State :=
  (s.listFault l cause p).breakForFault l

/-- The record of line l is removed, if the line is listed (R79, R80). -/
def State.clearLine (s : State) (l : Line) : State := { s with faults := s.faults.filter (fun f => f.line != l) }

/-! ## Banks (R83 to R97) -/

/-- The bank of a line under a configuration: LINEAR (R84) or FOLDED (R85). -/
def bankOf (c : Configuration) (l : Line) : BankNo :=
  match c.bankMapping with
  | .linear => Fin.ofNat 32 (l.toNat % c.bankCount.banks)
  | .folded =>
    Fin.ofNat 32 (l.toNat % c.bankCount.banks ^^^ l.toNat / 2 ^ c.foldShift % c.bankCount.banks)

/-- What a bank becomes when its operation ends: RECOVERING, or IDLE with a recovery interval of 0 (R90, R92). -/
def recoveredBank (c : Configuration) : BankRecord :=
  if c.recoveryInterval = 0 then .idle else .recovering c.recoveryInterval

/-- The bank of line l leaves BUSY at the end of its operation (R90, R91). -/
def State.endBank (s : State) (l : Line) : State := s.setBank (bankOf s.config l) (recoveredBank s.config)

/-! ## Ports and response queues -/

/-- The six ports. -/
def allPorts : List Port := [0, 1, 2, 3, 4, 5]

/-- The state of a port that is not fenced, by its enable (R136). -/
def stateByEnable (c : PortConfig) : PortState := if c.enable then .active else .disabled

/-- The port's response queue has a free place (R139). -/
def State.hasPlace (s : State) (p : Port) : Bool := decide (s.ports[p].responses.length < Config.responsePlaces)

/-- A response is placed at the tail of port p's queue (R145). -/
def State.placeResponse (s : State) (p : Port) (r : Response) : State :=
  s.setPort p { s.ports[p] with responses := s.ports[p].responses ++ [r] }

/-- The count of a port's entries, in every state (R1). -/
def State.entryCount (s : State) (p : Port) : Nat := (s.entries.filter (fun e => e.port == p)).length

/-- The entry is ORPHANED. -/
def Entry.isOrphaned (e : Entry) : Bool :=
  match e.state with
  | .orphaned _ => true
  | .deferred _ => false
  | .held _ => false
  | .ready => false
  | .issued _ => false
  | .answered _ _ => false

/-- The entry is ISSUED. -/
def Entry.isIssued (e : Entry) : Bool :=
  match e.state with
  | .issued _ => true
  | .deferred _ => false
  | .held _ => false
  | .ready => false
  | .orphaned _ => false
  | .answered _ _ => false

/-- The entry is ANSWERED. -/
def Entry.isAnswered (e : Entry) : Bool :=
  match e.state with
  | .answered _ _ => true
  | .deferred _ => false
  | .held _ => false
  | .ready => false
  | .issued _ => false
  | .orphaned _ => false

/-- The port holds an ORPHANED entry. -/
def State.hasOrphan (s : State) (p : Port) : Bool := s.entries.any (fun e => e.port == p && e.isOrphaned)

/-- The end of fencing: a FENCED port without an ORPHANED entry becomes ACTIVE or DISABLED by its enable, and
PORT_RESET_DONE is posted (R147). -/
def State.endFencing (s : State) (p : Port) : State :=
  if s.ports[p].state = .fenced ∧ s.hasOrphan p = false then
    (s.setPort p { s.ports[p] with state := stateByEnable s.config.ports[p] }).post .portResetDone (some p) .none
  else s

/-! ## The table's report of emptiness (R25, R158) -/

/-- The part-state logic takes the report: in DRAINING the part becomes QUIESCED and DRAIN_DONE is posted; in the
other part states the report has no effect (R25, R158). -/
def State.reportEmpty (s : State) : State :=
  match s.partState with
  | .draining => State.post { s with partState := .quiesced } .drainDone none .none
  | .offline => s
  | .online => s
  | .quiesced => s

/-- The entries for which `gone` holds are removed. If the table held entries and holds none now, it reports so
(R25). -/
def State.removeEntries (s : State) (gone : Entry → Bool) : State :=
  let kept := s.entries.filter (fun e => !gone e)
  if s.entries ≠ [] ∧ kept = [] then (s.setEntries kept).reportEmpty else s.setEntries kept

/-- Every entry at place n of the arrival order is changed by f. -/
def State.updateEntry (s : State) (n : Nat) (f : Entry → Entry) : State :=
  s.setEntries (s.entries.map (fun e => if e.arrival = n then f e else e))

/-- The entry at place n of the arrival order, if the table holds it. -/
def State.entryAt (s : State) (n : Nat) : Option Entry := s.entries.find? (fun e => e.arrival == n)

end Sys2Proof.Machine
end

