-- ==== Sys2Proof/Machine/Table.lean ====
section
/-! DEFINITION. The pending request table at work: line queues, hold causes, the line-head checks with judgement,
escalation and guard release, the answers and their placement, and the ends of dispatched operations. -/

namespace Sys2Proof.Machine

open Sys2Proof

/-! ## Line queues (R6, R7) -/

/-- READY, ISSUED or ORPHANED: the states in which an entry is line head and stays so (R7). -/
def Entry.isUnderWay (e : Entry) : Bool :=
  match e.state with
  | .ready => true
  | .issued _ => true
  | .orphaned _ => true
  | .deferred _ => false
  | .held _ => false
  | .answered _ _ => false

/-- The entry is HELD. -/
def Entry.isHeld (e : Entry) : Bool :=
  match e.state with
  | .held _ => true
  | .deferred _ => false
  | .ready => false
  | .issued _ => false
  | .orphaned _ => false
  | .answered _ _ => false

/-- The entry is DEFERRED. -/
def Entry.isDeferred (e : Entry) : Bool :=
  match e.state with
  | .deferred _ => true
  | .held _ => false
  | .ready => false
  | .issued _ => false
  | .orphaned _ => false
  | .answered _ _ => false

/-- The line queue of line l, its head first: the entry that is READY, ISSUED or ORPHANED, then the HELD entries in
arrival order (R6). -/
def State.lineQueue (s : State) (l : Line) : List Entry :=
  s.entries.filter (fun e => e.line == some l && e.isUnderWay) ++
    s.entries.filter (fun e => e.line == some l && e.isHeld)

/-- The entry stands at the front of the line queue of its line (R6). -/
def State.isLineHead (s : State) (e : Entry) : Bool :=
  match e.line with
  | none => false
  | some l =>
    match (s.lineQueue l).head? with
    | none => false
    | some h => h.arrival == e.arrival

/-! ## Hold causes (R8, R13, R15, R16) -/

/-- An older entry of the same port. -/
def Entry.isOlderAtPort (e than : Entry) : Bool := e.port == than.port && decide (e.arrival < than.arrival)

/-- The condition of PORT_ORDER: the port is STRICT and an older entry of it, not a BARRIER, is DEFERRED, HELD or
READY (R13). -/
def State.portOrderHolds (s : State) (e : Entry) : Bool :=
  s.config.ports[e.port].order == .strict &&
    s.entries.any (fun x =>
      x.isOlderAtPort e && x.kind != .barrier && (x.isDeferred || x.isHeld || x.state == .ready))

/-- The condition of cause BARRIER: an older BARRIER of the port has not been answered (R16). -/
def State.barrierHolds (s : State) (e : Entry) : Bool :=
  s.entries.any (fun x => x.isOlderAtPort e && x.kind == .barrier && !x.isAnswered)

/-- The hold causes of an entry that joins its line queue now, at its acceptance (R8) or at a release (R21). -/
def State.causesNow (s : State) (e : Entry) : HoldCauses := ⟨true, s.portOrderHolds e, s.barrierHolds e⟩

/-- The causes of a HELD entry that have ended are removed from it: PORT_ORDER (R13) and BARRIER (R16). LINE stays
until the checks, and a BARRIER entry keeps its cause until it is answered. -/
def State.releaseCause (s : State) (e : Entry) : Entry :=
  match e.state with
  | .held c =>
    if e.kind = .barrier then e
    else { e with state := .held ⟨c.line, c.portOrder && s.portOrderHolds e, c.barrier && s.barrierHolds e⟩ }
  | .deferred _ => e
  | .ready => e
  | .issued _ => e
  | .orphaned _ => e
  | .answered _ _ => e

/-- Every cause that has ended is removed (R13, R16). -/
def State.releaseCauses (s : State) : State := s.setEntries (s.entries.map s.releaseCause)

/-- The line-head checks of the entry are due, or, for a BARRIER, its answer is: a HELD line head whose only cause is
LINE (R9), or an unanswered BARRIER whose older entries at the port have all been answered (R15). -/
def State.isDue (s : State) (e : Entry) : Bool :=
  match e.state with
  | .held c =>
    if e.kind = .barrier then s.entries.all (fun x => !x.isOlderAtPort e || x.isAnswered)
    else c == ⟨true, false, false⟩ && s.isLineHead e
  | .deferred _ => false
  | .ready => false
  | .issued _ => false
  | .orphaned _ => false
  | .answered _ _ => false

/-! ## Answers and their placement (R2, R18, R20) -/

/-- The entry with its status set, leaving its line queue. A completion's data fills the entry's data field (R18). -/
def Entry.answer (e : Entry) (st : Status) (d : Option Data) (placeNo : Nat) : Entry :=
  { e with state := .answered st placeNo, data := if isRead e.kind then d else e.data }

/-- The response of an entry answered with status st: data on a read answered OK or OK_CORRECTED, no reason, the
immediate flag clear (R20, R138). -/
def Entry.response (e : Entry) (st : Status) : Response :=
  { portTag := e.portTag
    status := st
    reason := none
    data := if isRead e.kind && (st == .ok || st == .okCorrected) then e.data else none
    immediate := false }

/-- The entry at place n is answered with status st (R18). -/
def State.markAnswered (s : State) (n : Nat) (st : Status) (d : Option Data) : State :=
  { s.updateEntry n (fun e => e.answer st d s.nextAnswer) with nextAnswer := s.nextAnswer + 1 }

/-- The response of ANSWERED entry e is placed in its port's queue and the entry is removed (R20). -/
def State.placeEntry (s : State) (e : Entry) : State :=
  match e.state with
  | .answered st _ => (s.placeResponse e.port (e.response st)).removeEntries (fun x => x.arrival == e.arrival)
  | .deferred _ => s
  | .held _ => s
  | .ready => s
  | .issued _ => s
  | .orphaned _ => s

/-- The response of the entry at place n, just answered, is placed if its port's queue has a free place; otherwise
the entry stays ANSWERED (R20). -/
def State.placeIfRoom (s : State) (n : Nat) : State :=
  match s.entryAt n with
  | none => s
  | some e => if s.hasPlace e.port then s.placeEntry e else s

/-- The entry at place n is answered with status st and its response is placed, or waits (R18, R20). -/
def State.answer (s : State) (n : Nat) (st : Status) (d : Option Data) : State :=
  (s.markAnswered n st d).placeIfRoom n

/-- The place in the order of answers of an ANSWERED entry. -/
def Entry.answerPlace (e : Entry) : Nat :=
  match e.state with
  | .answered _ n => n
  | .deferred _ => 0
  | .held _ => 0
  | .ready => 0
  | .issued _ => 0
  | .orphaned _ => 0

/-- Port p's ANSWERED entry that was answered first, if one waits for a place (R20). -/
def State.firstAnswered (s : State) (p : Port) : Option Entry :=
  let waiting := s.entries.filter (fun e => e.port == p && e.isAnswered)
  waiting.find? (fun e => waiting.all (fun x => decide (e.answerPlace ≤ x.answerPlace)))

/-! ## Guard release (R21, R58) -/

/-- Guard g is released: its record becomes FREE, and its deferred entries become HELD with their causes found afresh.
Standing in arrival order among the HELD entries, each takes the place R21 gives it. No check is made here (R58). -/
def State.releaseGuard (s : State) (g : GuardNo) : State :=
  (s.setEntries (s.entries.map (fun e =>
    if e.state = .deferred g then { e with state := .held (s.causesNow e) } else e))).setGuard g .free

/-! ## The line-head checks (R9 to R11, R34 to R39, R77) -/

/-- The fault check answers the entry POISONED: its line is listed and it is not a full-line WRITE (R77). -/
def State.poisons (s : State) (e : Entry) (l : Line) : Bool :=
  s.listed l && !(e.kind == .write && e.mask.isNone)

/-- The entry passed its checks and is READY (R11). -/
def State.makeReady (s : State) (e : Entry) : State := s.updateEntry e.arrival (fun x => { x with state := .ready })

/-- The guard on line l that holder h owns. -/
def State.ownGuard (s : State) (h : Holder) (l : Line) : Option GuardNo :=
  allGuards.find? (fun g => s.guards[g].guards l && s.guards[g].ownedBy h)

/-- The state of a record after a failed judgement: LIVE on another line stays, any other becomes IDLE (R34). -/
def ReservationState.afterFailure (r : ReservationState) : ReservationState :=
  match r with
  | .live l t => .live l t
  | .idle => .idle
  | .broken _ _ => .idle

/-- The failure count raised by one, staying at the threshold (R36). -/
def raisedFailures (c : Configuration) (n : Nat) : Nat := if n < c.failureThreshold then n + 1 else n

/-- The judgement of WRITE_CONDITIONAL entry e on line l passes: the record is consumed, the count becomes 0, a guard
of the holder on the line is released, and the entry becomes READY (R35, R39, R59). -/
def State.passJudgement (s : State) (e : Entry) (l : Line) : State :=
  let h := holderOf e.port e.context
  let s1 := s.setReservation h ⟨.idle, 0⟩
  let s2 := match s1.ownGuard h l with
    | some g => s1.releaseGuard g
    | none => s1
  s2.makeReady e

/-- The judgement fails while the holder owns the guard on the line: the count becomes 0, the guard is released, and
the entry is answered FAILED; no escalation is requested (R39, R59). -/
def State.failAsOwner (s : State) (e : Entry) (g : GuardNo) : State :=
  let h := holderOf e.port e.context
  let s1 := s.setReservation h ⟨s.reservations[h].state.afterFailure, 0⟩
  (s1.releaseGuard g).answer e.arrival .failed none

/-- The judgement fails otherwise: the entry is answered FAILED, the count rises, an escalation is requested if it
then equals the threshold, and the response is placed (R36, R38, R11). -/
def State.failJudgement (s : State) (e : Entry) (l : Line) : State :=
  let h := holderOf e.port e.context
  let n := raisedFailures s.config s.reservations[h].failures
  let s1 := s.markAnswered e.arrival .failed none
  let s2 := s1.setReservation h ⟨s.reservations[h].state.afterFailure, n⟩
  let s3 := if n = s.config.failureThreshold then s2.escalate h l else s2
  s3.placeIfRoom e.arrival

/-- The judgement of WRITE_CONDITIONAL entry e on line l (R34). -/
def State.judge (s : State) (e : Entry) (l : Line) : State :=
  let h := holderOf e.port e.context
  if s.reservations[h].isLiveOn l then s.passJudgement e l
  else
    match s.ownGuard h l with
    | some g => s.failAsOwner e g
    | none => s.failJudgement e l

/-- What is due for the entry is made: a BARRIER is answered OK (R15); any other entry comes to the fault check and,
for a WRITE_CONDITIONAL, to the judgement (R10). -/
def State.examine (s : State) (e : Entry) : State :=
  match e.line with
  | none => s.answer e.arrival .ok none
  | some l =>
    if s.poisons e l then s.answer e.arrival .poisoned none
    else if e.kind = .writeConditional then s.judge e l
    else s.makeReady e

/-- How many checks and answers the table can still make: one for each HELD entry, two for each DEFERRED entry, which
may come to be HELD. -/
def Entry.weight (e : Entry) : Nat :=
  match e.state with
  | .deferred _ => 2
  | .held _ => 1
  | .ready => 0
  | .issued _ => 0
  | .orphaned _ => 0
  | .answered _ _ => 0

/-- The bound on the checks and answers of one happening. -/
def State.weight (s : State) : Nat := (s.entries.map Entry.weight).sum

/-- Up to n checks and answers, one after another: the oldest of those due comes next, and sees the records as the
ones before it left them (R9). -/
def State.settleLoop : Nat → State → State
  | 0, s => s.releaseCauses
  | n + 1, s =>
    match s.releaseCauses.entries.find? s.releaseCauses.isDue with
    | none => s.releaseCauses
    | some e => State.settleLoop n (s.releaseCauses.examine e)

/-- Every check and answer that has come due is made, within the happening (R9, R12, R13, R15, R16). -/
def State.settle (s : State) : State := State.settleLoop s.weight s

/-! ## The ends of dispatched operations (R18, R19, R30, R70, R122) -/

/-- An operation ends for its entry: an ISSUED entry is answered with st; an ORPHANED entry is removed without
response. The line queue moves on. After an orphan's, its port's fencing may end, and the table, if the orphan was
its last entry, reports its emptiness last (R122). -/
def State.endOperation (s : State) (e : Entry) (st : Status) (d : Option Data) : State :=
  if e.isOrphaned then
    let s1 := s.setEntries (s.entries.filter (fun x => x.arrival != e.arrival))
    let s2 := s1.settle.endFencing e.port
    if s1.entries = [] then s2.reportEmpty else s2
  else (s.answer e.arrival st d).settle

/-- The reservation effect of a reserving read that ends badly (R30). -/
def State.endReserve (s : State) (e : Entry) (l : Line) : State :=
  if e.kind = .readReserve then s.breakReadFailed (holderOf e.port e.context) l else s

/-- The fault recorded when a write's operation times out or is aborted; a read's end records none (R74). -/
def State.faultWrite (s : State) (e : Entry) (l : Line) (cause : FaultCause) : State :=
  if isWrite e.kind then s.recordFault l cause e.port else s

/-- The entry's operation is outstanding at the memory controller. -/
def Entry.isOutstanding (e : Entry) : Bool := e.isIssued || e.isOrphaned

/-- A link abort (R129): the reserving reads break their records, the writes record their lines, the entries are ended
in arrival order, every tag becomes FREE and every bank IDLE, the link goes DOWN, and LINK_DOWN is posted.

DEDUCED (log entry 29): the recording of step 2 breaks with FAULT a record LIVE on the write's line, the writer's own
among them, as R33 and R75 say of every fault, although R129 closes with the abort changing no reservation other than
those of step 1. -/
def State.linkAbort (s : State) : State :=
  let bound := s.entries.filter Entry.isOutstanding
  let onLine (f : State → Entry → Line → State) (s : State) (e : Entry) : State :=
    match e.line with
    | none => s
    | some l => f s e l
  let s1 := bound.foldl (onLine State.endReserve) s
  let s2 := bound.foldl (onLine (fun s e l => s.faultWrite e l .writeAborted)) s1
  let s3 := bound.foldl (fun s e => s.endOperation e .aborted none) s2
  State.post
    { s3 with tags := Vector.replicate 12 .free, banks := Vector.replicate 32 .idle, link := .down }
    .linkDown none .none

/-! ## Port reset (R22, R61, R146) -/

/-- The entries of the reset port: ISSUED become ORPHANED, ORPHANED stay (R19, R22). -/
def Entry.orphan (e : Entry) (p : Port) : Entry :=
  if e.port = p then
    match e.state with
    | .issued t => { e with state := .orphaned t }
    | .deferred _ => e
    | .held _ => e
    | .ready => e
    | .orphaned _ => e
    | .answered _ _ => e
  else e

/-- Step 4 of a port reset: p's ISSUED entries become ORPHANED, its other entries are removed without response, and
the checks that follow are made (R22). -/
def State.resetEntries (s : State) (p : Port) : State :=
  ((s.setEntries (s.entries.map (fun e => e.orphan p))).removeEntries
    (fun e => e.port == p && !e.isOrphaned)).settle

/-- Guard g is released if a holder of port p owns it. -/
def State.releaseIfOwned (p : Port) (s : State) (g : GuardNo) : State :=
  if s.guards[g].ownedByPort p then s.releaseGuard g else s

/-- Step 5 of a port reset: the guards owned by p's holders are released, their lists rejoin, and the checks that
follow are made, oldest first over all the lines (R61). -/
def State.resetGuards (s : State) (p : Port) : State := (allGuards.foldl (State.releaseIfOwned p) s).settle

/-- A reset of port p, in the six steps of R146. -/
def State.resetPort (s : State) (p : Port) : State :=
  let s2 := s.setPort p ⟨.fenced, []⟩
  let s3 := s2.clearHolders p
  let s4 := s3.resetEntries p
  let s5 := s4.resetGuards p
  s5.endFencing p

/-! ## Acceptance (R8, R15, R55, R144) -/

/-- The guard that defers a request: ACTIVE on its line, of a kind that is deferred, of another holder (R55). -/
def State.deferringGuard (s : State) (p : Port) (m : Request) : Option GuardNo :=
  match m.line with
  | none => none
  | some l =>
    if isDeferrable m.kind then
      allGuards.find? (fun g =>
        s.guards[g].guards l && !s.guards[g].ownedBy (holderOf p (validContext m)))
    else none

/-- The new entry of an accepted request (R2), still without its state's causes. -/
def State.newEntry (s : State) (p : Port) (m : Request) : Entry :=
  { port := p
    portTag := m.portTag
    context := validContext m
    kind := m.kind
    line := m.line
    mask := m.mask
    data := keptData m
    arrival := s.nextArrival
    state := .ready
    bypass := 0 }

/-- The state in which an accepted request enters the table: on a deferred list (R55), HELD with cause BARRIER for
a BARRIER (R15), or HELD in its line queue (R8). -/
def State.entryStateAt (s : State) (p : Port) (m : Request) : EntryState :=
  match s.deferringGuard p m with
  | some g => .deferred g
  | none =>
    if m.kind = .barrier then .held ⟨false, false, true⟩ else .held (s.causesNow (s.newEntry p m))

/-- An accepted request becomes an entry, and what is due at its acceptance is made (R144). -/
def State.accept (s : State) (p : Port) (m : Request) : State :=
  State.settle
    { s with
      entries := s.entries ++ [{ s.newEntry p m with state := s.entryStateAt p m }]
      nextArrival := s.nextArrival + 1 }

end Sys2Proof.Machine
end

