-- ==== Sys2Proof/Machine/Window.lean ====
section
/-! DEFINITION. The word window and the frames of the management link: what each word reads as, the effect of reading
the notice head and the notice status, and how a frame leaves its status (R165 to R177). -/

namespace Sys2Proof.Machine

open Sys2Proof

/-! ## Read-outs (R171) -/

/-- Descriptor and line of a tag record (R133, R171). -/
def State.tagReadOut (s : State) (t : TagRecord) : Word × Option Line :=
  match t with
  | .free => (place t.code 0, none)
  | .busy n _ =>
    match s.entryAt n with
    | none => (place t.code 0, none)
    | some e => (place t.code 0 ||| place e.port.val 4 ||| flag e.isOrphaned 8, e.line)
  | .quarantined op l p => (place t.code 0 ||| place p.val 4 ||| flag (op == .write) 9, some l)

/-- Descriptor and line of a reservation record (R48, R171). -/
def Reservation.readOut (r : Reservation) : Word × Option Line :=
  match r.state with
  | .idle => (place r.state.code 0 ||| place r.failures 8, none)
  | .live l _ => (place r.state.code 0 ||| place r.failures 8, some l)
  | .broken l why => (place r.state.code 0 ||| place why.code 4 ||| place r.failures 8, some l)

/-- Descriptor and line of guard record g (R67, R171). -/
def State.guardReadOut (s : State) (g : GuardNo) : Word × Option Line :=
  match s.guards[g] with
  | .free => (0, none)
  | .active l o _ => (flag true 0 ||| place o.val 4 ||| place (s.deferredList g).length 16, some l)

/-- Descriptor and line of position n of the fault list (R82, R171). -/
def State.faultReadOut (s : State) (n : Nat) : Word × Option Line :=
  match s.faults[n]? with
  | none => (0, none)
  | some f => (flag true 0 ||| place f.cause.code 4 ||| place f.port.val 8, some f.line)

/-- Descriptor and line of a bank record (R98, R171). -/
def BankRecord.readOut (b : BankRecord) : Word × Option Line :=
  match b with
  | .idle => (place b.code 0, none)
  | .busy t => (place b.code 0 ||| place t.val 8, none)
  | .recovering _ => (place b.code 0, none)

/-- The descriptor fields and the line of the record the selector names (R171). An index outside its class, which no
taken write stores, names no record. -/
def State.selectedReadOut (s : State) : Word × Option Line :=
  let n := s.mgmt.selectorIndex.toNat
  match s.mgmt.selectorClass with
  | .tag => if h : n < 12 then s.tagReadOut s.tags[n] else (0, none)
  | .reservation => if h : n < 12 then s.reservations[n].readOut else (0, none)
  | .guard => if h : n < 4 then s.guardReadOut ⟨n, h⟩ else (0, none)
  | .fault => s.faultReadOut n
  | .bank => if h : n < 32 then s.banks[n].readOut else (0, none)

/-- The read-out descriptor, with bits 33–32 of the line in bits 31–30 (R167, word 21). -/
def State.descriptorWord (s : State) : Word :=
  match s.selectedReadOut with
  | (d, none) => d
  | (d, some l) => d ||| place (l.toNat / 2 ^ 32) 30

/-- The read-out line (R167, word 22). -/
def State.readOutLineWord (s : State) : Word :=
  match s.selectedReadOut with
  | (_, none) => 0
  | (_, some l) => l.extractLsb' 0 32

/-! ## Summary words (R172) -/

/-- The fields of several records in one word: the code of the record at position i of the list at bit width · i. -/
def packed (width : Nat) : List Nat → Word
  | [] => 0
  | n :: rest => place n 0 ||| (packed width rest) <<< width

/-- The byte of port p in words 23 and 24: entry count and port state. -/
def State.portByte (s : State) (p : Port) : Nat := s.entryCount p + s.ports[p].state.code * 2 ^ 6

/-- The word of the notice head entry (R175). -/
def Notice.headWord (n : Notice) : Word :=
  place n.kind.code 0 ||| place (noticePortCode n.port) 8 ||| place n.count 16 |||
    place n.detail.refusalCode 24 ||| place n.detail.lineHigh 28

/-- The word at an address of the window, as a read samples it (R167). An address outside the window reads as 0 (R166). -/
def State.wordAt (s : State) (address : Byte) : Word :=
  match address.toNat with
  | 0 => Config.identification
  | 1 => place s.partState.code 0 ||| flag s.link.isUp 4
  | 2 => 0
  | 3 => s.mgmt.lineArgument
  | 4 => place s.mgmt.result.code 0 ||| place s.mgmt.resultCode.toNat 8
  | 5 => s.config.word .memorySize
  | 6 => s.config.word (.port 0)
  | 7 => s.config.word (.port 1)
  | 8 => s.config.word (.port 2)
  | 9 => s.config.word (.port 3)
  | 10 => s.config.word (.port 4)
  | 11 => s.config.word (.port 5)
  | 12 => s.config.word .banks
  | 13 => s.config.word .lifetimes
  | 14 => s.config.word .completionTimeout
  | 15 => s.config.word .scheduling
  | 16 =>
    match s.notices.entries with
    | [] => 0
    | n :: _ => n.headWord
  | 17 => s.mgmt.noticeDetail
  | 18 => place s.notices.entries.length 0 ||| flag s.notices.overflow 8 ||| flag s.alert 9
  | 19 => s.notices.mask
  | 20 => place s.mgmt.selectorClass.code 0 ||| place s.mgmt.selectorIndex.toNat 8
  | 21 => s.descriptorWord
  | 22 => s.readOutLineWord
  | 23 => packed 8 [s.portByte 0, s.portByte 1, s.portByte 2]
  | 24 => packed 8 [s.portByte 3, s.portByte 4, s.portByte 5]
  | 25 => packed 2 (s.tags.toList.map TagRecord.code)
  | 26 => packed 2 ((s.banks.toList.take 16).map BankRecord.code)
  | 27 => packed 2 ((s.banks.toList.drop 16).map BankRecord.code)
  | 28 => packed 3 (s.grantOrder.map Fin.val)
  | 29 => packed 1 (allGuards.map (fun g => (s.guards[g] != .free).toNat)) ||| place s.faults.length 8
  | _ => 0

/-! ## The effect of reading a word (R175) -/

/-- Reading the notice head removes the oldest entry and loads the notice detail word; on an empty queue it sets the
detail word to 0 (R175). -/
def State.popNotice (s : State) : State :=
  match s.notices.entries with
  | [] => { s with mgmt := { s.mgmt with noticeDetail := 0 } }
  | n :: rest =>
    { s with
      notices := { s.notices with entries := rest }
      mgmt := { s.mgmt with noticeDetail := n.detail.word } }

/-- Reading the notice status clears the overflow flag (R175). -/
def State.clearOverflow (s : State) : State := { s with notices := { s.notices with overflow := false } }

/-- What reading the word at an address changes: the notice head pops, the notice status clears the overflow flag, and
reading any other word changes nothing (R164, R171, R172, R175). -/
def State.readEffect (s : State) (address : Byte) : State :=
  match address.toNat with
  | 16 => s.popNotice
  | 18 => s.clearOverflow
  | _ => s

/-! ## Frames (R165, R166) -/

/-- A frame shifts out the held status during its operation byte, and the given data bytes after it (R165). -/
def State.shiftOut (s : State) (data : List Byte) : State :=
  { s with frameOut := s.frameOut ++ [⟨s.mgmt.frameStatus, data⟩] }

/-- The status of a complete frame is held for the next frame (R166). -/
def State.holdStatus (s : State) (st : FrameStatus) : State := { s with mgmt := { s.mgmt with frameStatus := st } }

/-- A complete frame ends: the status before it has been shifted out with the data bytes, and its own is held. -/
def State.endFrame (s : State) (st : FrameStatus) (data : List Byte) : State := (s.shiftOut data).holdStatus st

/-- The status of a complete read frame: BAD_ADDRESS for an address of 30 or above (R166). -/
def readStatus (address : Byte) : FrameStatus := if address.toNat < 30 then .ok else .badAddress

/-- A read frame whose address byte was received, with n data bytes shifted before CS_n was deasserted. The word is
sampled and its reading takes effect at the address byte; the frame leaves a status only if it is complete (R165,
R166). -/
def State.readFrame (s : State) (address : Byte) (n : Nat) : State :=
  let read := (s.shiftOut ((bytesOf (s.wordAt address)).take n)).readEffect address
  if 4 ≤ n then read.holdStatus (readStatus address) else read

/-- A complete frame to the command word: its status is OK whatever the result, and the result and the code stand in
the command result word (R169, R170). -/
def State.endCommand (s : State) (code : Byte) (r : CommandResult) : State :=
  let s1 := s.endFrame .ok []
  { s1 with mgmt := { s1.mgmt with result := r, resultCode := code } }

/-- A frame that no row of the table covers: it leaves what was shifted out on SDO, zeros in the data bytes of a bad
operation (R166), and a read of a word its bytes and its status. A frame of no byte shifts out nothing. -/
def State.quietFrame (s : State) : QuietFrame → State
  | .empty => s
  | .cutShort => s.shiftOut []
  | .badOperation n => s.shiftOut ((bytesOf 0).take n)
  | .read address n => s.readFrame address n

end Sys2Proof.Machine
end

