-- ==== Sys2Proof/Machine/Ports.lean ====
section
/-! DEFINITION. The upstream ports: PRST_N_ASSERTED, REQUEST and DELIVERY, and what the part does while no command
waits (R135 to R151). -/

namespace Sys2Proof.Machine

open Sys2Proof

/-! ## The hold of POR_n (R154) -/

/-- While POR_n is asserted the part is held at its power-on state and takes no happening; otherwise the happening f
takes place (R154, R163). -/
def State.unlessHeld (s : State) (f : State → State) : State := if s.porAsserted then s else f s

/-! ## Arrival checks (R140 to R143) -/

/-- The line address is at or above the memory size divided by 64 (R141). -/
def outOfRange (c : Configuration) (m : Request) : Bool :=
  match m.line with
  | none => false
  | some l => decide (2 ^ c.memorySizeLog2 / 64 ≤ l.toNat)

/-- What an ACTIVE, enabled port below two entries adds to the guaranteed reserve (R143). -/
def State.reserveOf (s : State) (q : Port) : Nat :=
  if s.config.ports[q].enable ∧ s.ports[q].state = .active then Config.reservePerPort - s.entryCount q else 0

/-- The guaranteed reserve of the ports other than p (R143). -/
def State.guaranteedReserve (s : State) (p : Port) : Nat :=
  ((allPorts.filter (fun q => q != p)).map s.reserveOf).sum

/-- The quota check applies: the port's count equals its quota, or accepting would leave fewer free entries than the
guaranteed reserve of the other ports (R143). -/
def State.quotaForbids (s : State) (p : Port) : Bool :=
  decide (s.config.ports[p].quota ≤ s.entryCount p) ||
    decide (Config.tableCapacity < s.entries.length + 1 + s.guaranteedReserve p)

/-- An entry of the port holds the port tag (R142). -/
def State.holdsTag (s : State) (p : Port) (t : PortTag) : Bool :=
  s.entries.any (fun e => e.port == p && e.portTag == t)

/-- The arrival checks in the order of R140: the first that applies gives the status and the reason. -/
def State.arrivalCheck (s : State) (p : Port) (m : Request) : Option (Status × Reason) :=
  if s.ports[p].state = .disabled then some (.refused, .portDisabled)
  else if s.ports[p].state = .fenced then some (.retry, .portFenced)
  else if s.partState ≠ .online then some (.retry, .notOnline)
  else if malformed m then some (.refused, .badForm)
  else if outOfRange s.config m then some (.refused, .outOfRange)
  else if s.holdsTag p m.portTag then some (.refused, .tagInUse)
  else if s.quotaForbids p then some (.retry, .tableFull)
  else none

/-- The immediate response of the arrival checks (R140). -/
def immediateResponse (m : Request) (st : Status) (why : Reason) : Response := ⟨m.portTag, st, some why, none, true⟩

/-- A port takes a whole request: the arrival checks answer it, or it is accepted (R139, R140, R144). Only check 6
posts a notice (R142). -/
def State.takeRequest (s : State) (p : Port) (m : Request) : State :=
  match s.arrivalCheck p m with
  | none => s.accept p m
  | some (st, why) =>
    let s1 := s.placeResponse p (immediateResponse m st why)
    if why = .tagInUse then s1.post .tagInUse (some p) (.portTag m.portTag) else s1

/-- The request at the port's wires is taken if the response queue has a free place; otherwise it waits there (R139). -/
def State.takeFromWires (s : State) (p : Port) : State :=
  match s.wires[p] with
  | [] => s
  | m :: rest =>
    if s.hasPlace p then State.takeRequest { s with wires := s.wires.set p rest } p m else s

/-- A request is presented at the port's wires, behind one that still waits there (R139). -/
def State.present (s : State) (p : Port) (m : Request) : State :=
  { s with wires := s.wires.set p (s.wires[p] ++ [m]) }

/-- REQUEST: the request is presented, and is taken if the response queue has a free place (R139). -/
def execRequest (p : Port) (m : Request) (s : State) : Host.Outcome State Fault Refusal :=
  .next ((s.present p m).unlessHeld (fun s => s.takeFromWires p))

/-! ## Delivery (R20, R145) -/

/-- The place freed by a delivery is taken by the port's ANSWERED entry answered first, if one waits (R20). -/
def State.fillPlace (s : State) (p : Port) : State :=
  match s.firstAnswered p with
  | none => s
  | some e => s.placeEntry e

/-- The requester takes the oldest response of the port's queue; an empty queue presents none (R145). -/
def State.deliver (s : State) (p : Port) : State :=
  match s.ports[p].responses with
  | [] => s
  | r :: rest =>
    State.fillPlace
      { s.setPort p { s.ports[p] with responses := rest } with delivered := s.delivered ++ [(p, r)] } p

/-- DELIVERY (R145). -/
def execDelivery (p : Port) (s : State) : Host.Outcome State Fault Refusal :=
  .next (s.unlessHeld (fun s => s.deliver p))

/-- PRST_N_ASSERTED: one reset of the port at each change from deasserted to asserted (R146). -/
def execPrstNAsserted (p : Port) (s : State) : Host.Outcome State Fault Refusal :=
  .next (s.unlessHeld (fun s => s.resetPort p))

/-! ## What happens while no command waits -/

/-- The port can take a request that waits at its wires (R139). -/
def State.canTake (s : State) (p : Port) : Bool := !s.wires[p].isEmpty && s.hasPlace p

/-- The frame that the part takes with no command waiting: the oldest at the management link, with the state it leaves
waiting. While POR_n is asserted no frame is taken (R165). -/
def State.nextFrame (s : State) : Option (Frame × State) :=
  match s.porAsserted, s.frames with
  | false, f :: rest => some (decodeFrame f, { s with frames := rest })
  | false, [] => none
  | true, _ :: _ => none
  | true, [] => none

/-- With no command and no frame to take, the part takes the request waiting at the wires of the lowest-numbered port
that has a free place. With none it idles (R139). -/
def State.idle (s : State) : State :=
  s.unlessHeld (fun s =>
    match allPorts.find? s.canTake with
    | some p => s.takeFromWires p
    | none => s)

end Sys2Proof.Machine
end

