-- ==== Sys2Proof/Machine/Scheduler.lean ====
section
/-! DEFINITION. The dispatch scheduler: the candidates, the choice and the effects of one dispatch (R99 to R114). -/

namespace Sys2Proof.Machine

open Sys2Proof

/-- The twelve downstream tags. -/
def allTags : List Tag := [0, 1, 2, 3, 4, 5, 6, 7, 8, 9, 10, 11]

/-- The lowest-numbered FREE tag (R107). -/
def State.freeTag (s : State) : Option Tag := allTags.find? (fun t => s.tags[t] == .free)

/-- The bank of an entry: the bank of its line (R83). A BARRIER has none. -/
def State.bankOfEntry (s : State) (e : Entry) : Option BankNo := e.line.map (bankOf s.config)

/-- A READY entry whose bank is IDLE (R101). -/
def State.isCandidate (s : State) (e : Entry) : Bool :=
  match s.bankOfEntry e with
  | none => false
  | some b => e.state == .ready && s.banks[b] == .idle

/-- The candidates, oldest first (R101). -/
def State.candidates (s : State) : List Entry := s.entries.filter s.isCandidate

/-- The entry's bypass count equals the bypass limit (R100). -/
def State.isOverdue (s : State) (e : Entry) : Bool := e.bypass == s.config.bypassLimit

/-- The choice: the oldest overdue candidate; with none overdue, the oldest candidate of the first port in the grant
order list that has one (R103). -/
def State.choice (s : State) : Option Entry :=
  match s.candidates.find? s.isOverdue with
  | some e => some e
  | none => s.grantOrder.findSome? (fun p => s.candidates.find? (fun e => e.port == p))

/-- Conditions 1 and 2 of R102: the part is ONLINE or DRAINING, and the link is UP. -/
def State.mayDispatch (s : State) : Bool :=
  (s.partState == .online || s.partState == .draining) && s.link == .up

/-- The port moves to the tail of the grant order list (R105). -/
def moveToTail (p : Port) (order : List Port) : List Port := order.filter (fun q => q != p) ++ [p]

/-- A bypass count raised by one, saturating at the limit (R100, R106). -/
def raisedBypass (c : Configuration) (n : Nat) : Nat := if n < c.bypassLimit then n + 1 else n

/-- An older candidate on the chosen entry's bank has its bypass count raised (R106). -/
def State.raiseBypass (s : State) (chosen e : Entry) : Entry :=
  if s.isCandidate e ∧ s.bankOfEntry e = s.bankOfEntry chosen ∧ e.arrival < chosen.arrival then
    { e with bypass := raisedBypass s.config e.bypass }
  else e

/-- The operation sent for a kind (R108). -/
def operationOf (k : RequestKind) : LinkOperation := if isWrite k then .write else .read

/-- The DISPATCH message of an entry: the mask of a partial write and the data of a write (R108). -/
def dispatchMessage (e : Entry) (l : Line) (t : Tag) : LinkMessage :=
  .dispatch t (operationOf e.kind) l (if e.kind = .write then e.mask else none)
    (if isWrite e.kind then e.data else none)

/-- The reservation effect of a dispatch: a READ_RESERVE reserves, a WRITE or WRITE_CONDITIONAL breaks the others'
records with CONFLICT, a READ does neither (R28, R31, R109). -/
def State.dispatchReservation (s : State) (e : Entry) (l : Line) : State :=
  match e.kind with
  | .read => s
  | .readReserve => s.reserve (holderOf e.port e.context) l
  | .write => s.breakForConflict (holderOf e.port e.context) l
  | .writeConditional => s.breakForConflict (holderOf e.port e.context) l
  | .barrier => s

/-- Effects 1 to 6 of R104 for chosen entry e on line l with tag t. -/
def State.bind (s : State) (e : Entry) (l : Line) (t : Tag) : State :=
  { s with
    entries := s.entries.map (fun x =>
      if x.arrival = e.arrival then { x with state := .issued t } else s.raiseBypass e x)
    grantOrder := moveToTail e.port s.grantOrder
    tags := s.tags.set t (.busy e.arrival s.config.completionTimeout)
    banks := s.banks.set (bankOf s.config l) (.busy t)
    linkOut := s.linkOut ++ [dispatchMessage e l t] }

/-- One dispatch of entry e on line l with tag t: the eight effects of R104. -/
def State.dispatchEntry (s : State) (e : Entry) (l : Line) (t : Tag) : State :=
  ((s.bind e l t).dispatchReservation e l).settle

/-- The scheduler's moment: with the four conditions of R102, one dispatch; otherwise none happens. -/
def State.dispatch (s : State) : State :=
  if s.mayDispatch then
    match s.freeTag, s.choice with
    | some t, some e =>
      match e.line with
      | some l => s.dispatchEntry e l t
      | none => s
    | some _, none => s
    | none, some _ => s
    | none, none => s
  else s

/-- DISPATCH (R102, R104). -/
def execDispatch (s : State) : Host.Outcome State Fault Refusal := .next (s.unlessHeld State.dispatch)

end Sys2Proof.Machine
end

