-- ==== Sys2Proof/Machine/Downstream.lean ====
section
/-! DEFINITION. The downstream link controller: completions, completion timeouts and the link signals (R115 to R134). -/

namespace Sys2Proof.Machine

open Sys2Proof

/-! ## Completions (R119 to R127) -/

/-- The outcome a completion counts as for an entry: a read's DONE or DONE_CORRECTED without data is taken as
DATA_ERROR (R121). -/
def effectiveOutcome (e : Entry) (m : Completion) : CompletionOutcome :=
  if isRead e.kind ∧ m.data = none then .dataError else m.outcome

/-- The status of an entry whose operation completed (R70). -/
def completionStatus (k : RequestKind) : CompletionOutcome → Status
  | .done => .ok
  | .doneCorrected => if isRead k then .okCorrected else .ok
  | .dataError => .poisoned

/-- The data that fills the entry: a read's, unless the outcome is DATA_ERROR (R121). -/
def completionData (e : Entry) (m : Completion) : Option Data :=
  if isRead e.kind ∧ effectiveOutcome e m ≠ .dataError then m.data else none

/-- A full-line write: a WRITE without a mask, or a WRITE_CONDITIONAL (R79). -/
def Entry.isFullLineWrite (e : Entry) : Bool :=
  (e.kind == .write && e.mask.isNone) || e.kind == .writeConditional

/-- Step 4 of a completion: the fault list records or clears, and a corrected read is reported (R70 to R73, R79). -/
def State.completeFault (s : State) (e : Entry) (l : Line) : CompletionOutcome → State
  | .dataError => s.recordFault l (if isRead e.kind then .readError else .writeError) e.port
  | .doneCorrected =>
    if isRead e.kind then s.post .correctedData (some e.port) (.line l)
    else if e.isFullLineWrite then s.clearLine l else s
  | .done => if e.isFullLineWrite then s.clearLine l else s

/-- Step 3 of a completion: the reservation table acts on the end of a READ_RESERVE (R30). -/
def State.completeReserve (s : State) (e : Entry) (l : Line) (o : CompletionOutcome) : State :=
  if o = .dataError then s.endReserve e l else s

/-- The completion of a BUSY tag's entry e on line l, in the order of R120. -/
def State.completeEntry (s : State) (t : Tag) (e : Entry) (l : Line) (m : Completion) : State :=
  let o := effectiveOutcome e m
  let s1 := (s.setTag t .free).endBank l
  let s2 := (s1.completeReserve e l o).completeFault e l o
  s2.endOperation e (completionStatus e.kind o) (completionData e m)

/-- A completion that names tag t, by the state of the tag (R119). A BUSY tag always has its bound entry in the table
(R116); without one the tag alone is freed. -/
def State.completeTag (s : State) (t : Tag) (m : Completion) : State :=
  match s.tags[t] with
  | .free => s.post .strayCompletion none (.tag m.tag)
  | .quarantined _ _ _ => (s.setTag t .free).post .lateCompletion none (.tag m.tag)
  | .busy n _ =>
    match s.entryAt n with
    | none => s.setTag t .free
    | some e =>
      match e.line with
      | none => s.setTag t .free
      | some l => s.completeEntry t e l m

/-- A completion message (R119): a number from 12 upward names no tag and is a stray (R127). -/
def State.complete (s : State) (m : Completion) : State :=
  if h : m.tag < 12 then s.completeTag ⟨m.tag, h⟩ m else s.post .strayCompletion none (.tag m.tag)

/-- COMPLETION (R119). -/
def execCompletion (m : Completion) (s : State) : Host.Outcome State Fault Refusal :=
  .next (s.unlessHeld (fun s => s.complete m))

/-! ## Completion timeout (R124) -/

/-- The completion timer of tag t runs out with entry e on line l bound to it, in the order of R124. -/
def State.timeOutEntry (s : State) (t : Tag) (e : Entry) (l : Line) : State :=
  let s1 := (s.setTag t (.quarantined (operationOf e.kind) l e.port)).endBank l
  let s2 := (s1.endReserve e l).faultWrite e l .writeTimeout
  (s2.endOperation e .timeout none).post .completionTimeout (some e.port) (.tag t.val)

/-- The completion timer of tag t runs out. Only a BUSY tag has a timer (R115, R123). -/
def State.timeOut (s : State) (t : Tag) : State :=
  match s.tags[t] with
  | .free => s
  | .quarantined _ _ _ => s
  | .busy n _ =>
    match s.entryAt n with
    | none => s
    | some e =>
      match e.line with
      | none => s
      | some l => s.timeOutEntry t e l

/-- COMPLETION_TIMEOUT (R124). -/
def execCompletionTimeout (t : Tag) (s : State) : Host.Outcome State Fault Refusal :=
  .next (s.unlessHeld (fun s => s.timeOut t))

/-! ## Link signals (R117, R130) -/

/-- LINK_UP: a DOWN link becomes UP; an UP link stays so (R117). -/
def execLinkUp (s : State) : Host.Outcome State Fault Refusal :=
  .next (s.unlessHeld (fun s => { s with link := .up }))

/-- The partner's LINK_DOWN: a link abort while the link is UP, nothing while it is DOWN (R117). -/
def State.signalDown (s : State) : State :=
  match s.link with
  | .up => s.linkAbort
  | .down => s

/-- LINK_DOWN (R117, R129). -/
def execLinkDown (s : State) : Host.Outcome State Fault Refusal := .next (s.unlessHeld State.signalDown)

end Sys2Proof.Machine
end

