-- ==== Sys2Proof/Machine/Timers.lean ====
section
/-! DEFINITION. The timers of reservation records, guards and banks running out (R32, R60, R92). A timer that does not
run cannot run out: a command that names one changes nothing. -/

namespace Sys2Proof.Machine

open Sys2Proof

/-- Holder h's lifetime timer runs out: its LIVE record becomes BROKEN with EXPIRED, keeping its line (R32). -/
def State.expireReservation (s : State) (h : Holder) : State :=
  match s.reservations[h].state with
  | .live l _ => s.setReservation h { s.reservations[h] with state := .broken l .expired }
  | .idle => s
  | .broken _ _ => s

/-- RESERVATION_EXPIRY (R32). -/
def execReservationExpiry (h : Holder) (s : State) : Host.Outcome State Fault Refusal :=
  .next (s.unlessHeld (fun s => s.expireReservation h))

/-- Guard g's lifetime timer runs out: the owner's failure count becomes 0, GUARD_EXPIRED is posted, and the guard is
released, with the checks that follow (R60, R58). -/
def State.expireGuard (s : State) (g : GuardNo) : State :=
  match s.guards[g] with
  | .free => s
  | .active l o _ =>
    let s1 := s.setReservation o { s.reservations[o] with failures := 0 }
    let s2 := s1.post .guardExpired (some (portOf o)) (.line l)
    (s2.releaseGuard g).settle

/-- GUARD_EXPIRY (R60). -/
def execGuardExpiry (g : GuardNo) (s : State) : Host.Outcome State Fault Refusal :=
  .next (s.unlessHeld (fun s => s.expireGuard g))

/-- Bank b's recovery timer runs out: the RECOVERING bank becomes IDLE (R92). -/
def State.expireRecovery (s : State) (b : BankNo) : State :=
  match s.banks[b] with
  | .recovering _ => s.setBank b .idle
  | .idle => s
  | .busy _ => s

/-- BANK_RECOVERY_EXPIRY (R92). -/
def execBankRecoveryExpiry (b : BankNo) (s : State) : Host.Outcome State Fault Refusal :=
  .next (s.unlessHeld (fun s => s.expireRecovery b))

end Sys2Proof.Machine
end

