-- ==== Sys2Proof/Machine/Commands.lean ====
section
/-! DEFINITION. The commands written to the command word, and the power-on input (R152 to R160, R169, R170). Each
command frame is taken in every part state, has frame status OK, and leaves its result and code in the command result
word. -/

namespace Sys2Proof.Machine

open Sys2Proof

/-! ## GO_ONLINE and DRAIN (R155 to R157) -/

/-- The configuration check: at least one port's enable is on (R156). -/
def Configuration.passesCheck (c : Configuration) : Bool := allPorts.any (fun p => c.ports[p].enable)

/-- GO_ONLINE from OFFLINE or QUIESCED: the check is made (R155). -/
def State.checkOnline (s : State) : State × CommandResult :=
  if s.config.passesCheck then ({ s with partState := .online }, .done) else (s, .configInvalid)

/-- The GO_ONLINE command by the part state it finds (R155). -/
def State.goOnline (s : State) : State × CommandResult :=
  match s.partState with
  | .offline => s.checkOnline
  | .quiesced => s.checkOnline
  | .draining => ({ s with partState := .online }, .done)
  | .online => (s, .stateError)

/-- GO_ONLINE, command code 1 (R155). -/
def execGoOnline (_args : CommandArguments) (s : State) : Host.Outcome State Fault Refusal :=
  .next (s.unlessHeld (fun s => s.goOnline.1.endCommand 1 s.goOnline.2))

/-- The DRAIN command by the part state it finds (R157). -/
def State.drain (s : State) : State × CommandResult :=
  match s.partState with
  | .online =>
    if s.entries = [] then (State.post { s with partState := .quiesced } .drainDone none .none, .done)
    else ({ s with partState := .draining }, .done)
  | .offline => (s, .stateError)
  | .draining => (s, .stateError)
  | .quiesced => (s, .stateError)

/-- DRAIN, command code 2 (R157). -/
def execDrain (_args : CommandArguments) (s : State) : Host.Outcome State Fault Refusal :=
  .next (s.unlessHeld (fun s => s.drain.1.endCommand 2 s.drain.2))

/-! ## FULL_RESET and power-on (R154, R160) -/

/-- Every port at the state its enable gives, with an empty response queue (R135). -/
def resetPorts (c : Configuration) : Vector PortRecord 6 := c.ports.mapIdx (fun _ p => ⟨stateByEnable p, []⟩)

/-- Every block at its reset values, the configuration, the notice mask, the line argument word, the selector and the
held frame status kept, and LINK_RESET sent (R160, R166, R167). -/
def State.fullReset (s : State) : State :=
  { s with
    partState := .offline
    ports := resetPorts s.config
    entries := []
    nextArrival := 0
    nextAnswer := 0
    reservations := Vector.replicate 12 ⟨.idle, 0⟩
    guards := Vector.replicate 4 .free
    faults := []
    banks := Vector.replicate 32 .idle
    grantOrder := resetGrantOrder
    tags := Vector.replicate 12 .free
    link := .down
    notices := ⟨[], false, s.notices.mask⟩
    mgmt := { s.mgmt with noticeDetail := 0 }
    linkOut := s.linkOut ++ [.linkReset] }

/-- FULL_RESET, command code 3 (R160). -/
def execFullReset (_args : CommandArguments) (s : State) : Host.Outcome State Fault Refusal :=
  .next (s.unlessHeld (fun s => s.fullReset.endCommand 3 .done))

/-- The part at its power-on state (R154). What waits at the inputs and what has left at the outputs is not the part's
to change. -/
def State.powerOn (s : State) : State :=
  { State.reset with
    wires := s.wires
    frames := s.frames
    linkOut := s.linkOut
    delivered := s.delivered
    frameOut := s.frameOut
    pending := s.pending }

/-- POR_N_ASSERTED: the part is held at its power-on state, whatever it was doing (R154). -/
def execPorNAsserted (s : State) : Host.Outcome State Fault Refusal := .next { s.powerOn with porAsserted := true }

/-- The end of power-on: LINK_RESET is sent to the partner (R131). A POR_n that is not asserted is not deasserted. -/
def State.releasePower (s : State) : State :=
  if s.porAsserted then State.send { s with porAsserted := false } .linkReset else s

/-- POR_N_DEASSERTED (R131, R154). -/
def execPorNDeasserted (s : State) : Host.Outcome State Fault Refusal := .next s.releasePower

/-! ## PORT_RESET, LINK_RESET and the clearing commands (R80, R130, R146) -/

/-- The PORT_RESET command: the named port is reset, or none is (R146, R169). -/
def State.commandPortReset (s : State) (args : CommandArguments) : State × CommandResult :=
  match namedPort args with
  | some p => (s.resetPort p, .done)
  | none => (s, .badArgument)

/-- PORT_RESET, command code 4 (R146). -/
def execPortReset (args : CommandArguments) (s : State) : Host.Outcome State Fault Refusal :=
  .next (s.unlessHeld (fun s => (s.commandPortReset args).1.endCommand 4 (s.commandPortReset args).2))

/-- The LINK_RESET command: LINK_RESET is sent, and a link abort follows if the link is UP (R130). -/
def State.linkReset (s : State) : State := (s.send .linkReset).signalDown

/-- LINK_RESET, command code 5 (R130). -/
def execLinkReset (_args : CommandArguments) (s : State) : Host.Outcome State Fault Refusal :=
  .next (s.unlessHeld (fun s => s.linkReset.endCommand 5 .done))

/-- The CLEAR_FAULT command for line l (R80). -/
def State.clearFault (s : State) (l : Line) : State × CommandResult :=
  if s.listed l then (s.clearLine l, .done) else (s, .badArgument)

/-- CLEAR_FAULT, command code 6 (R80, R181). -/
def execClearFault (args : CommandArguments) (s : State) : Host.Outcome State Fault Refusal :=
  .next (s.unlessHeld (fun s =>
    let l := namedLine args s.mgmt.lineArgument
    (s.clearFault l).1.endCommand 6 (s.clearFault l).2))

/-- CLEAR_ALL_FAULTS, command code 7 (R80). -/
def execClearAllFaults (_args : CommandArguments) (s : State) : Host.Outcome State Fault Refusal :=
  .next (s.unlessHeld (fun s => State.endCommand { s with faults := [] } 7 .done))

/-- UNKNOWN_COMMAND: a code that takes no command has the result BAD_ARGUMENT, and nothing else changes (R169). A term
with a known code is no such frame. -/
def execUnknownCommand (code : Byte) (_args : CommandArguments) (s : State) : Host.Outcome State Fault Refusal :=
  if code = 0 ∨ 8 ≤ code.toNat then .next (s.unlessHeld (fun s => s.endCommand code .badArgument))
  else .refused .illFormed

end Sys2Proof.Machine
end

