-- ==== Sys2Proof/Machine/Frames.lean ====
section
/-! DEFINITION. The other frames of the management link: configuration writes, the notice mask, the read-out selector,
the two reads that change a block, writes of the other words, and frames outside the window (R161 to R177). -/

namespace Sys2Proof.Machine

open Sys2Proof

/-! ## Configuration writes (R161, R162, R168) -/

/-- The part state in which configuration writes are taken: OFFLINE or QUIESCED (R161). -/
def State.takesConfiguration (s : State) : Bool := s.partState == .offline || s.partState == .quiesced

/-- A port whose enable a taken write changes becomes ACTIVE or DISABLED at once; no port is FENCED then (R136). -/
def PortRecord.reconfigured (r : PortRecord) (before after : PortConfig) : PortRecord :=
  if before.enable = after.enable then r else { r with state := stateByEnable after }

/-- A taken configuration write: the items are stored, ports follow their enables (R136), and failure counts above the
threshold are set to it (R37). Running timers keep their intervals (R162). -/
def State.storeConfiguration (s : State) (c : Configuration) : State :=
  { s with
    config := c
    ports := s.ports.mapIdx (fun i r => if h : i < 6 then r.reconfigured s.config.ports[i] c.ports[i] else r)
    reservations := s.reservations.mapIdx (fun _ r => r.cap c.failureThreshold) }

/-- A write frame to a configuration word, taken or denied whole (R168). -/
def State.writeConfiguration (s : State) (w : ConfigWord) (v : Word) : State :=
  if s.takesConfiguration then
    match s.config.write w v with
    | some c => (s.storeConfiguration c).endFrame .ok []
    | none => s.endFrame .denied []
  else s.endFrame .denied []

/-- CONFIGURATION_WRITE (R168). -/
def execConfigurationWrite (w : ConfigWord) (v : Word) (s : State) : Host.Outcome State Fault Refusal :=
  .next (s.unlessHeld (fun s => s.writeConfiguration w v))

/-! ## The notice mask, the selector and the other words (R167, R171, R176) -/

/-- The notice mask is stored, its unnamed bits ignored (R167, R176). -/
def State.writeMask (s : State) (v : Word) : State :=
  { s with notices := { s.notices with mask := v &&& Config.noticeMaskBits } }

/-- NOTICE_MASK_WRITE: taken in every part state (R176). -/
def execNoticeMaskWrite (v : Word) (s : State) : Host.Outcome State Fault Refusal :=
  .next (s.unlessHeld (fun s => (s.writeMask v).endFrame .ok []))

/-- A write of the read-out selector: stored, or denied when the class or the index is out of range (R171). -/
def State.writeSelector (s : State) (v : Word) : State :=
  match selectorOf v with
  | some (c, n) =>
    State.endFrame { s with mgmt := { s.mgmt with selectorClass := c, selectorIndex := n } } .ok []
  | none => s.endFrame .denied []

/-- READ_OUT_SELECTOR_WRITE (R171). -/
def execReadOutSelectorWrite (v : Word) (s : State) : Host.Outcome State Fault Refusal :=
  .next (s.unlessHeld (fun s => s.writeSelector v))

/-- A write of another word: the line argument word stores the value; a read-only word denies it (R167). -/
def State.writeOther (s : State) (w : OtherWord) (v : Word) : State :=
  match w with
  | .lineArgument => State.endFrame { s with mgmt := { s.mgmt with lineArgument := v } } .ok []
  | .identification => s.endFrame .denied []
  | .partState => s.endFrame .denied []
  | .commandResult => s.endFrame .denied []
  | .noticeHead => s.endFrame .denied []
  | .noticeDetail => s.endFrame .denied []
  | .noticeStatus => s.endFrame .denied []
  | .readOutDescriptor => s.endFrame .denied []
  | .readOutLine => s.endFrame .denied []
  | .portsLow => s.endFrame .denied []
  | .portsHigh => s.endFrame .denied []
  | .tags => s.endFrame .denied []
  | .banksLow => s.endFrame .denied []
  | .banksHigh => s.endFrame .denied []
  | .grantOrder => s.endFrame .denied []
  | .guardsAndFaults => s.endFrame .denied []

/-- REGISTER_WRITE (R167). -/
def execRegisterWrite (w : OtherWord) (v : Word) (s : State) : Host.Outcome State Fault Refusal :=
  .next (s.unlessHeld (fun s => s.writeOther w v))

/-! ## Reads that change a block, and frames outside the window (R166, R175) -/

/-- NOTICE_HEAD_READ (R175). -/
def execNoticeHeadRead (dataBytes : Nat) (s : State) : Host.Outcome State Fault Refusal :=
  .next (s.unlessHeld (fun s => s.readFrame 16 dataBytes))

/-- NOTICE_STATUS_READ (R175). -/
def execNoticeStatusRead (dataBytes : Nat) (s : State) : Host.Outcome State Fault Refusal :=
  .next (s.unlessHeld (fun s => s.readFrame 18 dataBytes))

/-- BAD_ADDRESS: four zero bytes are shifted out, nothing is stored, and the status is BAD_ADDRESS (R166). A term with
a good operation byte and an address in the window is no such frame. -/
def execBadAddress (operation address : Byte) (s : State) : Host.Outcome State Fault Refusal :=
  if (operation ≠ 1 ∧ operation ≠ 2) ∨ 30 ≤ address.toNat then
    .next (s.unlessHeld (fun s => s.endFrame .badAddress (bytesOf 0)))
  else .refused .illFormed

end Sys2Proof.Machine
end

