-- ==== Sys2Proof/Machine/Dispatch.lean ====
section
/-! DEFINITION. The command's meaning, one arm for each row of spec/opcode_table.json. -/

namespace Sys2Proof.Machine

open Sys2Proof

def exec (i : Instr) (s : State) : Host.Outcome State Fault Refusal :=
  match i with
  | .porNAsserted => Sys2Proof.Machine.execPorNAsserted s
  | .porNDeasserted => Sys2Proof.Machine.execPorNDeasserted s
  | .prstNAsserted p => Sys2Proof.Machine.execPrstNAsserted p s
  | .request p m => Sys2Proof.Machine.execRequest p m s
  | .delivery p => Sys2Proof.Machine.execDelivery p s
  | .dispatch => Sys2Proof.Machine.execDispatch s
  | .completion m => Sys2Proof.Machine.execCompletion m s
  | .completionTimeout t => Sys2Proof.Machine.execCompletionTimeout t s
  | .linkUp => Sys2Proof.Machine.execLinkUp s
  | .linkDown => Sys2Proof.Machine.execLinkDown s
  | .reservationExpiry h => Sys2Proof.Machine.execReservationExpiry h s
  | .guardExpiry g => Sys2Proof.Machine.execGuardExpiry g s
  | .bankRecoveryExpiry b => Sys2Proof.Machine.execBankRecoveryExpiry b s
  | .goOnline args => Sys2Proof.Machine.execGoOnline args s
  | .drain args => Sys2Proof.Machine.execDrain args s
  | .fullReset args => Sys2Proof.Machine.execFullReset args s
  | .portReset args => Sys2Proof.Machine.execPortReset args s
  | .linkReset args => Sys2Proof.Machine.execLinkReset args s
  | .clearFault args => Sys2Proof.Machine.execClearFault args s
  | .clearAllFaults args => Sys2Proof.Machine.execClearAllFaults args s
  | .unknownCommand code args => Sys2Proof.Machine.execUnknownCommand code args s
  | .configurationWrite w v => Sys2Proof.Machine.execConfigurationWrite w v s
  | .noticeMaskWrite v => Sys2Proof.Machine.execNoticeMaskWrite v s
  | .readOutSelectorWrite v => Sys2Proof.Machine.execReadOutSelectorWrite v s
  | .noticeHeadRead n => Sys2Proof.Machine.execNoticeHeadRead n s
  | .noticeStatusRead n => Sys2Proof.Machine.execNoticeStatusRead n s
  | .registerWrite w v => Sys2Proof.Machine.execRegisterWrite w v s
  | .badAddress op address => Sys2Proof.Machine.execBadAddress op address s

end Sys2Proof.Machine
end

