-- ==== Sys2Proof/Machine/Step.lean ====
section
/-! DEFINITION. One step of the part: the command at the front of the queue takes its effect; with no command waiting,
the part does what no command asks for, or idles. -/

namespace Sys2Proof.Machine

open Sys2Proof

/-- The command at the front of the queue is taken from it and has its effect. With no command waiting, the oldest frame
at the management link is taken: the command its bytes spell has its effect (R165, R169), or the frame has no row. With
neither, the part does what no command asks for, or idles. -/
def step (s : State) : Host.Outcome State Fault Refusal :=
  match s.pending with
  | c :: rest => exec c { s with pending := rest }
  | [] =>
    match s.nextFrame with
    | some (.command c, t) => exec c t
    | some (.quiet f, t) => .next (t.quietFrame f)
    | none => .next s.idle

/-- The command that the word spells, at the front of the queue; the state unchanged where it spells none. -/
def State.withFetchWord (s : State) (nbits w : Nat) : State :=
  match decodeTableWord nbits w with
  | some c => { s with pending := c :: s.pending }
  | none => s

end Sys2Proof.Machine
end

