-- ==== Sys2Proof/Safety.lean ====
section
/-! DEFINITION. What counts as a sound state and as a bounded change: the laws the manual states of the part between
happenings, and the frame within which the table's own work stays. -/

namespace Sys2Proof.Machine

open Sys2Proof

/-! ## The frame of the table's work -/

/-- From s to t only the table's own work was done: entries, their answers and responses, failure counts and records,
guards, notices, and the part state may differ. Everything else, a port's state and the notice mask among it, is the
same. -/
structure TableOnly (s t : State) : Prop where
  porAsserted : t.porAsserted = s.porAsserted
  config : t.config = s.config
  portState : ∀ p : Port, t.ports[p].state = s.ports[p].state
  nextArrival : t.nextArrival = s.nextArrival
  faults : t.faults = s.faults
  banks : t.banks = s.banks
  grantOrder : t.grantOrder = s.grantOrder
  tags : t.tags = s.tags
  link : t.link = s.link
  mask : t.notices.mask = s.notices.mask
  mgmt : t.mgmt = s.mgmt
  wires : t.wires = s.wires
  frames : t.frames = s.frames
  linkOut : t.linkOut = s.linkOut
  delivered : t.delivered = s.delivered
  frameOut : t.frameOut = s.frameOut
  pending : t.pending = s.pending

/-! ## Laws of single blocks -/

/-- The notice queue holds at most 16 entries, never two of one kind and port, each with a count from 1 to 255
(R173). -/
def NoticeLaw (s : State) : Prop :=
  s.notices.entries.length ≤ Config.noticeCapacity ∧
  s.notices.entries.Pairwise (fun a b => ¬ (a.kind = b.kind ∧ a.port = b.port)) ∧
  ∀ n ∈ s.notices.entries, 1 ≤ n.count ∧ n.count ≤ Config.noticeCountMax

/-- The fault list holds at most 8 records, never two for one line (R68). -/
def FaultLaw (s : State) : Prop :=
  s.faults.length ≤ Config.faultCapacity ∧ s.faults.Pairwise (fun a b => a.line ≠ b.line)

/-- Every response queue holds at most 8 responses (R135). -/
def ResponseLaw (s : State) : Prop := ∀ p : Port, s.ports[p].responses.length ≤ Config.responsePlaces

/-- Each of the six ports stands exactly once in the grant order list (R99). -/
def GrantLaw (s : State) : Prop := s.grantOrder.Perm allPorts

/-- Every stored configuration item lies within its range (R161, R162). -/
def ConfigurationLaw (s : State) : Prop :=
  (26 ≤ s.config.memorySizeLog2 ∧ s.config.memorySizeLog2 ≤ 40) ∧
  (∀ p : Port, 4 ≤ s.config.ports[p].quota ∧ s.config.ports[p].quota ≤ 40) ∧
  (6 ≤ s.config.foldShift ∧ s.config.foldShift ≤ 20) ∧
  s.config.recoveryInterval ≤ 63 ∧
  (1 ≤ s.config.reservationLifetime ∧ s.config.reservationLifetime ≤ 1023) ∧
  (1 ≤ s.config.guardLifetime ∧ s.config.guardLifetime ≤ 1023) ∧
  (1 ≤ s.config.completionTimeout ∧ s.config.completionTimeout ≤ 65535) ∧
  (1 ≤ s.config.bypassLimit ∧ s.config.bypassLimit ≤ 31) ∧
  (1 ≤ s.config.failureThreshold ∧ s.config.failureThreshold ≤ 15)

/-- No holder's failure count exceeds the failure threshold (R37). -/
def FailureLaw (s : State) : Prop := ∀ h : Holder, s.reservations[h].failures ≤ s.config.failureThreshold

/-- No line has more than one guard, and every DEFERRED entry is on the list of a guard that is ACTIVE on its line
(R49). -/
def GuardLaw (s : State) : Prop :=
  (∀ (g g' : GuardNo) (l : Line), s.guards[g].guards l = true → s.guards[g'].guards l = true → g = g') ∧
  ∀ e ∈ s.entries, ∀ g : GuardNo, e.state = .deferred g → ∃ l, e.line = some l ∧ s.guards[g].guards l = true

/-! ## Laws of the table -/

/-- The table holds at most 64 entries, no port more than its quota (R1), and none in OFFLINE and QUIESCED (R153). -/
def TableLaw (s : State) : Prop :=
  s.entries.length ≤ Config.tableCapacity ∧
  (∀ p : Port, s.entryCount p ≤ s.config.ports[p].quota) ∧
  (s.partState = .offline ∨ s.partState = .quiesced → s.entries = [])

/-- No bypass count exceeds the bypass limit, and an entry that is DEFERRED or HELD has the count 0 (R100). -/
def BypassLaw (s : State) : Prop :=
  ∀ e ∈ s.entries, e.bypass ≤ s.config.bypassLimit ∧ (e.isDeferred = true ∨ e.isHeld = true → e.bypass = 0)

/-- The entries stand in arrival order, and the next arrival is younger than all (R3). -/
def ArrivalLaw (s : State) : Prop :=
  s.entries.Pairwise (fun a b => a.arrival < b.arrival) ∧ ∀ e ∈ s.entries, e.arrival < s.nextArrival

/-- No two entries of one port carry the same port tag (R4). -/
def PortTagLaw (s : State) : Prop :=
  s.entries.Pairwise (fun a b => ¬ (a.port = b.port ∧ a.portTag = b.portTag))

/-- On each line at most one entry is READY, ISSUED or ORPHANED (R7). -/
def LineLaw (s : State) : Prop :=
  s.entries.Pairwise (fun a b => ¬ (a.line = b.line ∧ a.isUnderWay = true ∧ b.isUnderWay = true))

/-- An entry names a line exactly when it is no BARRIER, and a BARRIER is HELD or ANSWERED (R2, R15). -/
def KindLaw (s : State) : Prop :=
  ∀ e ∈ s.entries, (e.line = none ↔ e.kind = .barrier) ∧
    (e.kind = .barrier → e.isHeld = true ∨ e.isAnswered = true)

/-- Between happenings no line-head check and no BARRIER's answer is left to be made (R9, R15), and a HELD entry of a line
carries LINE, and PORT_ORDER and BARRIER exactly while their conditions hold (R8, R13, R16). -/
def NothingDueLaw (s : State) : Prop :=
  (∀ e ∈ s.entries, s.isDue e = false) ∧
  ∀ e ∈ s.entries, ∀ c : HoldCauses, e.state = .held c → e.kind ≠ .barrier →
    c = ⟨true, s.portOrderHolds e, s.barrierHolds e⟩

/-! ## Laws between the table and the blocks below it -/

/-- Each BUSY tag is bound to one ISSUED or ORPHANED entry that holds it, and each ISSUED or ORPHANED entry holds a BUSY
tag bound to it (R116). -/
def TagLaw (s : State) : Prop :=
  (∀ (t : Tag) (n i : Nat), s.tags[t] = .busy n i →
    ∃ e ∈ s.entries, e.arrival = n ∧ (e.state = .issued t ∨ e.state = .orphaned t)) ∧
  ∀ e ∈ s.entries, ∀ t : Tag, e.state = .issued t ∨ e.state = .orphaned t →
    ∃ i, s.tags[t] = .busy e.arrival i

/-- A bank is BUSY with tag t exactly when an ISSUED or ORPHANED entry that holds t maps to it (R88). -/
def BankLaw (s : State) : Prop :=
  ∀ (b : BankNo) (t : Tag), s.banks[b] = .busy t ↔
    ∃ e ∈ s.entries, (e.state = .issued t ∨ e.state = .orphaned t) ∧ s.bankOfEntry e = some b

/-- A FENCED port holds an ORPHANED entry, and an ORPHANED entry's port is FENCED (R136, R147). -/
def FenceLaw (s : State) : Prop :=
  ∀ p : Port, s.ports[p].state = .fenced ↔ ∃ e ∈ s.entries, e.port = p ∧ e.isOrphaned = true

/-- While the link is DOWN every tag is FREE (R117). -/
def LinkLaw (s : State) : Prop := s.link = .down → ∀ t : Tag, s.tags[t] = .free

/-- Every step from a state that meets the law, if it answers a next state, answers one that meets it. -/
def EveryStepKeeps (law : State → Prop) : Prop :=
  ∀ s t : State, law s → step s = .next t → law t

end Sys2Proof.Machine
end

