-- ==== Sys2Proof/WellFormed.lean ====
section
/-! DEFINITION. Which terms of Instr are commands of their row: the operands that the types do not already bound. -/

namespace Sys2Proof

/-- A command code that takes no command: 0, or 8 to 255 (R169). -/
def isUnknownCode (code : Byte) : Bool :=
  code == 0 || decide (8 ≤ code.toNat)

/-- A frame whose operation byte is neither 1 nor 2, or whose address is 30 or above (R166). -/
def isBadFrame (operation address : Byte) : Bool :=
  (operation != 1 && operation != 2) || decide (30 ≤ address.toNat)

/-- The term spells a command of its own row: an UNKNOWN_COMMAND carries no known code, and a BAD_ADDRESS frame
is one that R166 gives that status. Every other operand is bounded by its type. -/
def Instr.wellFormed : Instr → Bool
  | .porNAsserted => true
  | .porNDeasserted => true
  | .prstNAsserted _ => true
  | .request _ _ => true
  | .delivery _ => true
  | .dispatch => true
  | .completion _ => true
  | .completionTimeout _ => true
  | .linkUp => true
  | .linkDown => true
  | .reservationExpiry _ => true
  | .guardExpiry _ => true
  | .bankRecoveryExpiry _ => true
  | .goOnline _ => true
  | .drain _ => true
  | .fullReset _ => true
  | .portReset _ => true
  | .linkReset _ => true
  | .clearFault _ => true
  | .clearAllFaults _ => true
  | .unknownCommand code _ => isUnknownCode code
  | .configurationWrite _ _ => true
  | .noticeMaskWrite _ => true
  | .readOutSelectorWrite _ => true
  | .noticeHeadRead _ => true
  | .noticeStatusRead _ => true
  | .registerWrite _ _ => true
  | .badAddress operation address => isBadFrame operation address

end Sys2Proof
end

