-- ==== Sys2Proof/Certificates/Slice0/Obligations.lean ====
section
/-! DEFINITION. The statements for the provers. Where a command ends with the table's checks, the statement gives the
state u that the command's own effect leaves, and says that the next state is u with the checks made (u.settle), or that
an operation's end was handed to the table (u.endOperation): what those two do is stated on its own. -/

open Sys2Proof Sys2Proof.Machine

/-! ## Steps and power-on -/

/-- A step takes the command at the front of the queue and runs exec of it on the state with the queue's rest. -/
def Obligations.StepRunsFrontCommand : Prop :=
  ∀ (s : State) (c : Instr) (rest : List Instr), s.pending = c :: rest → step s = exec c { s with pending := rest }

/-- With no command waiting and POR_n not asserted, a step takes the oldest frame at the management link: the command its
bytes spell has its effect, or the frame has no row. With no frame, it takes the request at the wires of the lowest-numbered
port with a free place, and with none it idles; while POR_n is asserted it idles. That frames come before requests, and the
choice among the ports, are the model's (log entries 1, 7 and 8). -/
def Obligations.EmptyQueueIdlesOrTakesWhatWaits : Prop :=
  ∀ s : State, s.pending = [] →
    (s.porAsserted = true → step s = .next s) ∧
    (s.porAsserted = false →
      (∀ (f : List Byte) (rest : List (List Byte)), s.frames = f :: rest →
        (∀ c : Instr, decodeFrame f = .command c → step s = exec c { s with frames := rest }) ∧
        ∀ q : QuietFrame, decodeFrame f = .quiet q → step s = .next (State.quietFrame { s with frames := rest } q)) ∧
      (s.frames = [] →
        ((∀ p : Port, s.wires[p] = [] ∨ 8 ≤ s.ports[p].responses.length) → step s = .next s) ∧
        ∀ (p : Port) (m : Request) (rest : List Request), s.wires[p] = m :: rest → s.ports[p].responses.length < 8 →
          (∀ q : Port, q < p → s.wires[q] = [] ∨ 8 ≤ s.ports[q].responses.length) →
          step s = .next (State.takeRequest { s with wires := s.wires.set p rest } p m)))

/-- Every well-formed command completes in every state, and leaves the queue of waiting commands as it was. A term whose
operands spell another row's command is refused by name: that is the model's choice (log entry 17). -/
def Obligations.EveryCommandCompletesAndKeepsTheQueue : Prop :=
  ∀ (c : Instr) (s : State),
    (c.wellFormed = true → ∃ t, exec c s = .next t ∧ t.pending = s.pending) ∧
    (c.wellFormed = false → exec c s = .refused .illFormed)

/-- The state at the end of power-on. -/
def Obligations.PowerOnValues : Prop :=
  let s := State.reset
  s.porAsserted = false ∧ s.partState = .offline ∧
  s.config.memorySizeLog2 = 32 ∧ s.config.bankCount = .sixteen ∧ s.config.bankMapping = .linear ∧
  s.config.foldShift = 8 ∧ s.config.recoveryInterval = 4 ∧ s.config.reservationLifetime = 64 ∧
  s.config.guardLifetime = 128 ∧ s.config.completionTimeout = 1000 ∧ s.config.bypassLimit = 8 ∧
  s.config.failureThreshold = 4 ∧
  (∀ p : Port, s.config.ports[p] = ⟨false, .line, 16⟩ ∧ s.ports[p] = ⟨.disabled, []⟩) ∧
  s.entries = [] ∧ (∀ h : Holder, s.reservations[h] = ⟨.idle, 0⟩) ∧ (∀ g : GuardNo, s.guards[g] = .free) ∧
  s.faults = [] ∧ (∀ b : BankNo, s.banks[b] = .idle) ∧ s.grantOrder = [0, 1, 2, 3, 4, 5] ∧
  (∀ t : Tag, s.tags[t] = .free) ∧ s.link = .down ∧ s.linkOut = [.linkReset] ∧
  s.notices = ⟨[], false, 0⟩ ∧ s.alert = false ∧ s.mgmt.result = .none ∧ s.mgmt.resultCode = 0 ∧
  s.mgmt.lineArgument = 0 ∧ s.mgmt.noticeDetail = 0 ∧ s.wordAt 20 = 0 ∧ s.mgmt.frameStatus = .ok

/-- An assertion of POR_n returns every block to its power-on value and holds it; what has left at the outputs, what
waits at the inputs and the waiting commands are not the part's to change. The deassertion ends the hold and sends
LINK_RESET; a POR_n that is not asserted is not deasserted, and the command then changes nothing (log entry 4). -/
def Obligations.PowerOnAssertionAndRelease : Prop :=
  ∀ s : State,
    exec .porNAsserted s = .next
      { State.reset with
        porAsserted := true, wires := s.wires, frames := s.frames, linkOut := s.linkOut,
        delivered := s.delivered, frameOut := s.frameOut, pending := s.pending } ∧
    (s.porAsserted = true →
      exec .porNDeasserted s = .next { s with porAsserted := false, linkOut := s.linkOut ++ [.linkReset] }) ∧
    (s.porAsserted = false → exec .porNDeasserted s = .next s)

/-- While POR_n is asserted no command but its own two changes the part; a request presented waits at the wires. -/
def Obligations.HeldPartTakesNothing : Prop :=
  ∀ (s : State) (c : Instr), s.porAsserted = true → c.wellFormed = true → c ≠ .porNAsserted → c ≠ .porNDeasserted →
    ∃ t, exec c s = .next t ∧ t = { s with wires := t.wires } ∧
      ((∀ p m, c ≠ .request p m) → t = s) ∧
      ∀ p m, c = .request p m → t.wires = s.wires.set p (s.wires[p] ++ [m])

/-! ## Upstream ports -/

/-- A request answered at the arrival checks: the first check of the seven that applies gives the status and the
reason, the response is placed at once with the immediate flag set and no data, no entry is made, and only TAG_IN_USE
posts a notice. Nothing else changes. The guaranteed reserve is the sum, over the other ports that are enabled and
ACTIVE, of what each lacks to two entries. -/
def Obligations.ArrivalChecksAnswerInOrder : Prop :=
  ∀ (s : State) (p : Port) (m : Request) (st : Status) (why : Reason),
    s.porAsserted = false → s.wires[p] = [] → s.ports[p].responses.length < 8 →
    (if s.ports[p].state = .disabled then some (Status.refused, Reason.portDisabled)
     else if s.ports[p].state = .fenced then some (.retry, .portFenced)
     else if s.partState ≠ .online then some (.retry, .notOnline)
     else if (m.mask.isSome ∧ m.kind ≠ .write) ∨ (m.kind = .barrier ∧ m.line.isSome) ∨
        (m.kind ≠ .barrier ∧ m.line = none) ∨ m.context = 2 ∨ m.context = 3 then some (.refused, .badForm)
     else if m.line.any (fun l => 2 ^ s.config.memorySizeLog2 / 64 ≤ l.toNat) = true then some (.refused, .outOfRange)
     else if ∃ e ∈ s.entries, e.port = p ∧ e.portTag = m.portTag then some (.refused, .tagInUse)
     else if s.config.ports[p].quota ≤ s.entryCount p ∨
        64 < s.entries.length + 1 + ∑ q : Port,
            (if q ≠ p ∧ s.config.ports[q].enable = true ∧ s.ports[q].state = .active then 2 - s.entryCount q else 0)
        then some (.retry, .tableFull)
     else none) = some (st, why) →
    exec (.request p m) s = .next
      { s with
        ports := s.ports.set p
          { s.ports[p] with responses := s.ports[p].responses ++ [⟨m.portTag, st, some why, none, true⟩] }
        notices :=
          if why = .tagInUse then s.notices.post .tagInUse (some p) (.portTag m.portTag) else s.notices }

/-- A request to which none of the seven arrival checks applies becomes the youngest entry of the table, with the fields its message gives,
on the deferred list of a guard that defers it, HELD as a BARRIER, or HELD in its line queue with cause LINE, and with
PORT_ORDER and BARRIER where their conditions hold; then the checks due are made. Nothing else changes before them. -/
def Obligations.AcceptedRequestBecomesAnEntry : Prop :=
  ∀ (s : State) (p : Port) (m : Request),
    s.porAsserted = false → s.wires[p] = [] → s.ports[p].responses.length < 8 →
    s.ports[p].state = .active → s.partState = .online →
    (m.mask = none ∨ m.kind = .write) → (m.line = none ↔ m.kind = .barrier) → (m.context = 0 ∨ m.context = 1) →
    (∀ l, m.line = some l → l.toNat < 2 ^ s.config.memorySizeLog2 / 64) →
    (∀ e ∈ s.entries, ¬ (e.port = p ∧ e.portTag = m.portTag)) →
    s.entryCount p < s.config.ports[p].quota →
    s.entries.length + 1 + (∑ q : Port,
      (if q ≠ p ∧ s.config.ports[q].enable = true ∧ s.ports[q].state = .active then 2 - s.entryCount q else 0)) ≤ 64 →
    ∃ (u : State) (e : Entry), exec (.request p m) s = .next u.settle ∧
      u = { s with entries := s.entries ++ [e], nextArrival := s.nextArrival + 1 } ∧
      e.port = p ∧ e.portTag = m.portTag ∧ e.context.val = m.context.toNat ∧ e.kind = m.kind ∧ e.line = m.line ∧
      e.mask = m.mask ∧
      e.data = (if m.kind = .write ∨ m.kind = .writeConditional then some m.data else none) ∧
      e.arrival = s.nextArrival ∧ e.bypass = 0 ∧
      ((∃ (g : GuardNo) (l : Line) (o : Holder) (i : Nat), m.line = some l ∧ s.guards[g] = .active l o i ∧
          o ≠ holderOf p e.context ∧ (m.kind = .write ∨ m.kind = .writeConditional ∨ m.kind = .readReserve) ∧
          e.state = .deferred g) ∨
       ((∀ (g : GuardNo) (l : Line) (o : Holder) (i : Nat), m.line = some l → s.guards[g] = .active l o i →
          o = holderOf p e.context ∨ m.kind = .read ∨ m.kind = .barrier) ∧
        (m.kind = .barrier → e.state = .held ⟨false, false, true⟩) ∧
        (m.kind ≠ .barrier → ∃ order barrier : Bool, e.state = .held ⟨true, order, barrier⟩ ∧
          (order = true ↔ s.config.ports[p].order = .strict ∧ ∃ x ∈ s.entries, x.port = p ∧
            x.arrival < s.nextArrival ∧ x.kind ≠ .barrier ∧
            (x.isDeferred = true ∨ x.isHeld = true ∨ x.state = .ready)) ∧
          (barrier = true ↔ ∃ x ∈ s.entries, x.port = p ∧ x.arrival < s.nextArrival ∧ x.kind = .barrier ∧
            x.isAnswered = false))))

/-- While the response queue of its port holds 8 responses, a request presented waits at the wires, behind those that
wait there already (log entry 7), and nothing else changes. -/
def Obligations.FullResponseQueueHoldsTheRequest : Prop :=
  ∀ (s : State) (p : Port) (m : Request), s.porAsserted = false → 8 ≤ s.ports[p].responses.length →
    exec (.request p m) s = .next { s with wires := s.wires.set p (s.wires[p] ++ [m]) }

/-- A delivery takes the oldest response of the port. The port's waiting entry that was answered first, if there is one,
takes the freed place and is removed; without one, nothing else changes. An empty queue presents no response, and a
delivery there changes nothing (log entry 21). -/
def Obligations.DeliveryFreesAPlace : Prop :=
  ∀ (s : State) (p : Port), s.porAsserted = false →
    (s.ports[p].responses = [] → exec (.delivery p) s = .next s) ∧
    ∀ (r : Response) (rest : List Response), s.ports[p].responses = r :: rest →
    ((∀ e ∈ s.entries, e.port = p → e.isAnswered = false) →
      exec (.delivery p) s = .next
        { s with ports := s.ports.set p ⟨s.ports[p].state, rest⟩, delivered := s.delivered ++ [(p, r)] }) ∧
    ((∃ e ∈ s.entries, e.port = p ∧ e.isAnswered = true) →
      ∃ e ∈ s.entries, ∃ (st : Status) (n : Nat) (t : State),
        e.port = p ∧ e.state = .answered st n ∧
        (∀ x ∈ s.entries, x.port = p → x.isAnswered = true → n ≤ x.answerPlace) ∧
        exec (.delivery p) s = .next t ∧
        t.entries = s.entries.filter (fun x => x.arrival != e.arrival) ∧
        t.ports = s.ports.set p ⟨s.ports[p].state, rest ++ [e.response st]⟩ ∧
        t.delivered = s.delivered ++ [(p, r)] ∧
        t = { s with
          ports := t.ports, delivered := t.delivered, entries := t.entries, partState := t.partState
          notices := t.notices } ∧
        (t.entries ≠ [] ∨ s.partState ≠ .draining → t.partState = s.partState ∧ t.notices = s.notices) ∧
        (t.entries = [] → s.partState = .draining →
          t.partState = .quiesced ∧ t.notices = s.notices.post .drainDone none .none))

/-- After a port reset the port holds no entry that is not ORPHANED, its response queue is empty, its two records are
IDLE with count 0, no guard is owned by its holders, and it is FENCED exactly while it holds an orphan, standing
otherwise by its enable. Faults, banks, tags, the grant order list, the link and every other port's state stay. The steps
of the reset come in their order: the port, its queue, its records and its entries, with the report of an emptied table and
the checks; then all the port's guards, whose lists rejoin before the checks that follow (log entry 13); then the end of
fencing. -/
def Obligations.PortResetClearsThePort : Prop :=
  ∀ (s : State) (p : Port), s.porAsserted = false → ArrivalLaw s →
    ∃ t, exec (.prstNAsserted p) s = .next t ∧
      (∀ e ∈ t.entries, e.port = p → e.isOrphaned = true) ∧
      t.ports[p].responses = [] ∧
      (∀ h : Holder, portOf h = p → t.reservations[h] = ⟨.idle, 0⟩) ∧
      (∀ g : GuardNo, t.guards[g].ownedByPort p = false) ∧
      (t.ports[p].state = if t.hasOrphan p then .fenced else if s.config.ports[p].enable then .active else .disabled) ∧
      (∀ q : Port, q ≠ p → t.ports[q].state = s.ports[q].state) ∧
      t = { s with
        ports := t.ports, entries := t.entries, nextAnswer := t.nextAnswer, reservations := t.reservations
        guards := t.guards, notices := t.notices, partState := t.partState } ∧
      ∃ u v : State,
        u.entries = (s.entries.filter fun e => ¬ (e.port = p ∧ e.isIssued = false ∧ e.isOrphaned = false)).map
          (fun e => match e.state with
            | .issued g => if e.port = p then { e with state := .orphaned g } else e
            | _ => e) ∧
        u.ports = s.ports.set p ⟨.fenced, []⟩ ∧
        (∀ h : Holder, u.reservations[h] = if portOf h = p then ⟨.idle, 0⟩ else s.reservations[h]) ∧
        u = { s with entries := u.entries, ports := u.ports, reservations := u.reservations } ∧
        (let w := if s.entries ≠ [] ∧ u.entries = [] then u.reportEmpty.settle else u.settle
         (∀ g : GuardNo, v.guards[g] = if w.guards[g].ownedByPort p then .free else w.guards[g]) ∧
         v.entries = w.entries.map (fun x =>
           if ∃ g : GuardNo, x.state = .deferred g ∧ w.guards[g].ownedByPort p = true then
             { x with state := .held ⟨true, w.portOrderHolds x, w.barrierHolds x⟩ } else x) ∧
         v = { w with guards := v.guards, entries := v.entries }) ∧
        t = v.settle.endFencing p

/-- An ISSUED entry of a reset port becomes ORPHANED and keeps its tag; an entry of the port in any other state but
ORPHANED is removed. -/
def Obligations.PortResetOrphansIssuedEntries : Prop :=
  ∀ (s t : State) (p : Port), s.porAsserted = false → ArrivalLaw s → exec (.prstNAsserted p) s = .next t →
    ∀ (x : Entry), x.port = p →
      (x ∈ t.entries ↔ ∃ e ∈ s.entries, ∃ g : Tag,
        (e.state = .issued g ∨ e.state = .orphaned g) ∧ x = { e with state := .orphaned g })

/-! ## The table's checks -/

/-- The checks of a happening stay within the table's own work. -/
def Obligations.ChecksStayWithinTheTable : Prop := ∀ s : State, TableOnly s s.settle

/-- Before each check the causes that have ended are removed: PORT_ORDER when no older entry of the STRICT port but a
BARRIER is DEFERRED, HELD or READY, and BARRIER when no older BARRIER of the port is unanswered. Then the oldest entry due
is examined, and the rest follow from the state it leaves. After the checks of a happening none is left to be made: no HELD
line head has LINE as its only cause, and no BARRIER has all its older entries answered; and no HELD entry carries a cause
that has ended. An entry of a line is due exactly when it is HELD with LINE alone, no entry of its line is READY, ISSUED or
ORPHANED, and no older entry of its line is HELD; a BARRIER exactly when it is HELD and every older entry of its port is
ANSWERED. -/
def Obligations.ChecksRunOldestFirstUntilNoneIsDue : Prop :=
  ∀ s : State,
    (∀ x : Entry,
      (x.isDeferred = true ↔ ∃ g, x.state = .deferred g) ∧ (x.isHeld = true ↔ ∃ c, x.state = .held c) ∧
      (x.isIssued = true ↔ ∃ t, x.state = .issued t) ∧ (x.isOrphaned = true ↔ ∃ t, x.state = .orphaned t) ∧
      (x.isAnswered = true ↔ ∃ st n, x.state = .answered st n)) ∧
    (ArrivalLaw s → KindLaw s → ∀ e ∈ s.entries, (s.isDue e = true ↔
      (e.kind ≠ .barrier ∧ e.state = .held ⟨true, false, false⟩ ∧
        ∀ x ∈ s.entries, x.line = e.line →
          x.state ≠ .ready ∧ (∀ t, x.state ≠ .issued t) ∧ (∀ t, x.state ≠ .orphaned t) ∧
          ∀ c, x.state = .held c → e.arrival ≤ x.arrival) ∨
      (e.kind = .barrier ∧ (∃ c, e.state = .held c) ∧
        ∀ x ∈ s.entries, x.port = e.port → x.arrival < e.arrival → ∃ st n, x.state = .answered st n))) ∧
    (∀ e ∈ s.settle.entries, s.settle.isDue e = false) ∧
    (∀ e ∈ s.settle.entries, ∀ c : HoldCauses, e.state = .held c → e.kind ≠ .barrier →
      (c.portOrder = true → s.settle.portOrderHolds e = true) ∧ (c.barrier = true → s.settle.barrierHolds e = true)) ∧
    (∀ e : Entry,
      (s.portOrderHolds e = true ↔ s.config.ports[e.port].order = .strict ∧ ∃ x ∈ s.entries, x.port = e.port ∧
        x.arrival < e.arrival ∧ x.kind ≠ .barrier ∧ (x.isDeferred = true ∨ x.isHeld = true ∨ x.state = .ready)) ∧
      (s.barrierHolds e = true ↔ ∃ x ∈ s.entries, x.port = e.port ∧ x.arrival < e.arrival ∧ x.kind = .barrier ∧
        x.isAnswered = false)) ∧
    s.releaseCauses = { s with entries := s.entries.map fun e => match e.state with
      | .held c =>
        if e.kind = .barrier then e
        else { e with state := .held ⟨c.line, c.portOrder && s.portOrderHolds e, c.barrier && s.barrierHolds e⟩ }
      | _ => e } ∧
    ((∀ e ∈ s.releaseCauses.entries, s.releaseCauses.isDue e = false) → s.settle = s.releaseCauses) ∧
    ∀ e : Entry, s.releaseCauses.entries.find? s.releaseCauses.isDue = some e →
      s.settle = (s.releaseCauses.examine e).settle

/-- What is due for an entry decides it: a BARRIER is answered OK. On a listed line every kind but a full-line WRITE is
answered POISONED; otherwise a WRITE_CONDITIONAL is judged, and any other line head becomes READY. -/
def Obligations.LineHeadChecksDecide : Prop :=
  ∀ (s : State) (e : Entry),
    (e.line = none → s.examine e = s.answer e.arrival .ok none) ∧
    ∀ l : Line, e.line = some l →
    ((∃ f ∈ s.faults, f.line = l) → ¬ (e.kind = .write ∧ e.mask = none) →
      s.examine e = s.answer e.arrival .poisoned none) ∧
    ((∀ f ∈ s.faults, f.line ≠ l) ∨ (e.kind = .write ∧ e.mask = none) →
      (e.kind = .writeConditional → s.examine e = s.judge e l) ∧
      (e.kind ≠ .writeConditional → s.examine e =
        { s with entries := s.entries.map fun x => if x.arrival = e.arrival then { x with state := .ready } else x }))

/-- An answered entry takes its status and the next place in the order of answers, with the data of a read. Its response
is placed, and the entry removed, at once when its port's queue has a free place; the table that loses its last entry
reports so. With a full queue the entry waits ANSWERED. -/
def Obligations.AnswerPlacesOrWaits : Prop :=
  ∀ s : State,
    (∀ (n : Nat) (st : Status) (d : Option Data), s.answer n st d =
      State.placeIfRoom
        { s with
          entries := s.entries.map fun x =>
            if x.arrival = n then
              { x with state := .answered st s.nextAnswer, data := if isRead x.kind then d else x.data }
            else x
          nextAnswer := s.nextAnswer + 1 } n) ∧
    ∀ (e : Entry) (st : Status) (k : Nat), ArrivalLaw s → e ∈ s.entries → e.state = .answered st k →
      (8 ≤ s.ports[e.port].responses.length → s.placeIfRoom e.arrival = s) ∧
      (s.ports[e.port].responses.length < 8 →
        let kept := s.entries.filter fun x => x.arrival != e.arrival
        let v : State :=
          { s with
            entries := kept
            ports := s.ports.set e.port
              ⟨s.ports[e.port].state, s.ports[e.port].responses ++
                [⟨e.portTag, st, none, if isRead e.kind ∧ (st = .ok ∨ st = .okCorrected) then e.data else none, false⟩]⟩ }
        (kept ≠ [] → s.placeIfRoom e.arrival = v) ∧ (kept = [] → s.placeIfRoom e.arrival = v.reportEmpty))

/-- The judgement of a conditional write against its holder's record: LIVE on its line passes, leaves the record IDLE with
count 0, and makes the entry READY; LIVE on another line fails and stays; any other fails and becomes IDLE. A holder that
owns the guard on the line has it released either way: the record is FREE and its deferred entries are HELD, their causes
found afresh; a failure then leaves count 0 and requests no escalation. Without the guard a failure answers the entry FAILED,
raises the count, saturating at the threshold, and requests the escalation exactly when the count then equals it, before
the response is placed: that order of the last two is the model's reading (log entry 15). Nothing else changes. -/
def Obligations.JudgementDecidesTheRecord : Prop :=
  ∀ (s : State) (e : Entry) (l : Line), e.line = some l →
    let h := holderOf e.port e.context
    let live := ∃ i, s.reservations[h].state = .live l i
    let after : ReservationState :=
      match s.reservations[h].state with
      | .live l' i => .live l' i
      | .idle => .idle
      | .broken _ _ => .idle
    let count := if s.reservations[h].failures < s.config.failureThreshold then s.reservations[h].failures + 1
      else s.reservations[h].failures
    let ready (es : List Entry) := es.map fun x => if x.arrival = e.arrival then { x with state := .ready } else x
    (∀ (g : GuardNo) (i : Nat), s.guards[g] = .active l h i → (∀ k : GuardNo, k ≠ g → ∀ j, s.guards[k] ≠ .active l h j) →
      let rejoined := s.entries.map fun x =>
        if x.state = .deferred g then { x with state := .held ⟨true, s.portOrderHolds x, s.barrierHolds x⟩ } else x
      (live → s.judge e l = { s with
        reservations := s.reservations.set h ⟨.idle, 0⟩, guards := s.guards.set g .free, entries := ready rejoined }) ∧
      (¬ live → s.judge e l = State.answer { s with
        reservations := s.reservations.set h ⟨after, 0⟩, guards := s.guards.set g .free, entries := rejoined }
        e.arrival .failed none)) ∧
    ((∀ (g : GuardNo) (i : Nat), s.guards[g] ≠ .active l h i) →
      (live → s.judge e l = { s with
        reservations := s.reservations.set h ⟨.idle, 0⟩, entries := ready s.entries }) ∧
      (¬ live →
        let v : State := { s with
          reservations := s.reservations.set h ⟨after, count⟩
          entries := s.entries.map fun x =>
            if x.arrival = e.arrival then
              { x with state := .answered .failed s.nextAnswer, data := if isRead x.kind then none else x.data }
            else x
          nextAnswer := s.nextAnswer + 1 }
        (count = s.config.failureThreshold → s.judge e l = (v.escalate h l).placeIfRoom e.arrival) ∧
        (count ≠ s.config.failureThreshold → s.judge e l = v.placeIfRoom e.arrival)))

/-- An escalation request is refused with LINE_GUARDED when the line is guarded, is granted the lowest-numbered FREE
record when it is not, and is refused with TABLE_FULL when no record is FREE. -/
def Obligations.EscalationGrantsOrRefuses : Prop :=
  ∀ (s : State) (h : Holder) (l : Line),
    ((∃ (g : GuardNo) (o : Holder) (i : Nat), s.guards[g] = .active l o i) →
      s.escalate h l =
        { s with notices := s.notices.post .guardRefused (some (portOf h)) (.refusedLine l .lineGuarded) }) ∧
    ((∀ (g : GuardNo) (o : Holder) (i : Nat), s.guards[g] ≠ .active l o i) →
      (∀ g : GuardNo, s.guards[g] = .free → (∀ k : GuardNo, k < g → s.guards[k] ≠ .free) →
        s.escalate h l =
          { s with
            guards := s.guards.set g (.active l h s.config.guardLifetime)
            notices := s.notices.post .guardGranted (some (portOf h)) (.line l) }) ∧
      ((∀ g : GuardNo, s.guards[g] ≠ .free) →
        s.escalate h l =
          { s with notices := s.notices.post .guardRefused (some (portOf h)) (.refusedLine l .tableFull) }))

/-- When the guard timer of an ACTIVE guard runs out, the owner's failure count becomes 0 and its record stays,
GUARD_EXPIRED is posted, the guard is FREE, every entry of its deferred list is HELD with its causes found afresh, and then
the checks are made. A guard that is FREE has no timer, and nothing changes: that clause is the model's (log entry 3). -/
def Obligations.GuardExpiryReleasesTheGuard : Prop :=
  ∀ (s : State) (g : GuardNo), s.porAsserted = false →
    (s.guards[g] = .free → exec (.guardExpiry g) s = .next s) ∧
    ∀ (l : Line) (o : Holder) (i : Nat), s.guards[g] = .active l o i →
      ∃ u : State, exec (.guardExpiry g) s = .next u.settle ∧
        u = { s with
          reservations := s.reservations.set o ⟨s.reservations[o].state, 0⟩
          notices := s.notices.post .guardExpired (some (portOf o)) (.line l)
          guards := s.guards.set g .free
          entries := s.entries.map fun e =>
            if e.state = .deferred g then
              { e with state := .held ⟨true, s.portOrderHolds e, s.barrierHolds e⟩ } else e }

/-! ## Dispatch -/

/-- Under LINEAR the bank of a line is the line address modulo the bank count. Under FOLDED it is the exclusive-or of
that and of the line address divided by 2 to the fold shift, modulo the bank count. Under either mapping, with a fold shift
in range, a block of B consecutive lines aligned to B covers all B banks. -/
def Obligations.BankMappingFollowsTheConfiguration : Prop :=
  ∀ (c : Configuration) (B : Nat),
    B = (match c.bankCount with | .eight => 8 | .sixteen => 16 | .thirtyTwo => 32) →
    (∀ l : Line, (bankOf c l).val < B ∧
      (c.bankMapping = .linear → (bankOf c l).val = l.toNat % B) ∧
      (c.bankMapping = .folded → (bankOf c l).val = (l.toNat % B) ^^^ (l.toNat / 2 ^ c.foldShift % B))) ∧
    ∀ (k : Nat) (b : BankNo), 6 ≤ c.foldShift → k * B + B ≤ 2 ^ 34 → b.val < B →
      ∃ i < B, bankOf c (BitVec.ofNat 34 (k * B + i)) = b

/-- The banks of the lines that the manual lists, under the two mappings with 16 and with 32 banks and the fold shift 8;
with 16 banks the FOLDED bank is the lowest hexadecimal digit exclusive-or the third from the right. Lines 1F40h, 2040h and
2140h, 256 apart, share bank 0 under LINEAR and fall in three banks under FOLDED; 1F41h and 5E00h share bank 14. -/
def Obligations.ListedLinesHaveTheListedBanks : Prop :=
  let bank (n : BankCount) (m : BankMapping) (l : Line) : Nat :=
    (bankOf { Configuration.powerOn with bankCount := n, bankMapping := m } l).val
  let banks (n : BankCount) (m : BankMapping) : List Nat :=
    [0x1F40#34, 0x1F41#34, 0x2040#34, 0x2140#34, 0x2A01#34, 0x3C80#34, 0x5E00#34, 0x71C0#34].map (bank n m)
  banks .sixteen .linear = [0, 1, 0, 0, 1, 0, 0, 0] ∧
  banks .sixteen .folded = [15, 14, 0, 1, 11, 12, 14, 1] ∧
  banks .thirtyTwo .linear = [0, 1, 0, 0, 1, 0, 0, 0] ∧
  banks .thirtyTwo .folded = [31, 30, 0, 1, 11, 28, 30, 17] ∧
  (∀ l : Line, bank .sixteen .folded l = (l.toNat % 16) ^^^ (l.toNat / 16 ^ 2 % 16)) ∧
  (0x2040#34 - 0x1F40#34 = 256#34 ∧ 0x2140#34 - 0x2040#34 = 256#34) ∧
  bank .sixteen .folded 0x1F41#34 = 14 ∧ bank .sixteen .folded 0x5E00#34 = 14

/-- The choice: one entry is chosen exactly when there is a candidate. It is the oldest overdue candidate, or, with no
candidate overdue, the oldest candidate of the first port of the grant order list that has one. -/
def Obligations.ChoiceIsOldestOverdueElseByGrantOrder : Prop :=
  ∀ s : State, ArrivalLaw s → GrantLaw s →
    (s.choice = none ↔ s.candidates = []) ∧
    ∀ e : Entry, s.choice = some e → e ∈ s.candidates ∧
      ((∃ x ∈ s.candidates, x.bypass = s.config.bypassLimit) →
        e.bypass = s.config.bypassLimit ∧
        ∀ x ∈ s.candidates, x.bypass = s.config.bypassLimit → e.arrival ≤ x.arrival) ∧
      ((∀ x ∈ s.candidates, x.bypass ≠ s.config.bypassLimit) →
        (∀ x ∈ s.candidates, x.port = e.port → e.arrival ≤ x.arrival) ∧
        ∃ before after : List Port, s.grantOrder = before ++ e.port :: after ∧
          ∀ q ∈ before, ∀ x ∈ s.candidates, x.port ≠ q)

/-- While one of the four conditions fails, no dispatch happens and nothing changes. -/
def Obligations.NoDispatchWithoutTheFourConditions : Prop :=
  ∀ s : State, s.porAsserted = false →
    ((s.partState ≠ .online ∧ s.partState ≠ .draining) ∨ s.link = .down ∨ (∀ t : Tag, s.tags[t] ≠ .free) ∨
      (∀ e ∈ s.entries, ∀ b : BankNo, e.state = .ready → s.bankOfEntry e = some b → s.banks[b] ≠ .idle)) →
    exec .dispatch s = .next s

/-- A dispatch binds the chosen entry to the lowest-numbered FREE tag and to its bank, starts the completion timer, moves
the entry's port to the tail of the grant order list, sends one DISPATCH, raises the bypass counts of the older
candidates on the bank, has the reservation effect of the kind, and then makes the checks it brings due. -/
def Obligations.DispatchBindsTheChosenEntry : Prop :=
  ∀ (s : State) (e : Entry) (l : Line) (t : Tag),
    s.porAsserted = false → s.partState = .online ∨ s.partState = .draining → s.link = .up →
    s.tags[t] = .free → (∀ k : Tag, k < t → s.tags[k] ≠ .free) → s.choice = some e → e.line = some l →
    let h := holderOf e.port e.context
    ∃ u : State, exec .dispatch s = .next u.settle ∧
      u.tags = s.tags.set t (.busy e.arrival s.config.completionTimeout) ∧
      u.banks = s.banks.set (bankOf s.config l) (.busy t) ∧
      u.grantOrder = s.grantOrder.filter (fun q => q != e.port) ++ [e.port] ∧
      u.linkOut = s.linkOut ++
        [.dispatch t (if e.kind = .write ∨ e.kind = .writeConditional then .write else .read) l
          (if e.kind = .write then e.mask else none)
          (if e.kind = .write ∨ e.kind = .writeConditional then e.data else none)] ∧
      u.entries = s.entries.map (fun x =>
        if x.arrival = e.arrival then { x with state := .issued t }
        else if x ∈ s.candidates ∧ s.bankOfEntry x = s.bankOfEntry e ∧ x.arrival < e.arrival then
          { x with bypass := if x.bypass < s.config.bypassLimit then x.bypass + 1 else x.bypass }
        else x) ∧
      (∀ k : Holder, u.reservations[k] =
        if e.kind = .readReserve ∧ k = h then
          { s.reservations[k] with state := .live l s.config.reservationLifetime }
        else if (e.kind = .write ∨ e.kind = .writeConditional) ∧ k ≠ h then (s.reservations[k]).break l .conflict
        else s.reservations[k]) ∧
      u = { s with
        tags := u.tags, banks := u.banks, grantOrder := u.grantOrder, linkOut := u.linkOut
        entries := u.entries, reservations := u.reservations }

/-- At each dispatch, whichever step of the choice found the entry, its port goes from its place in the grant order list to
the tail, and the other five keep their order among themselves; a port at the tail already leaves the list unchanged. From
P0, P1, P2, P3, P4, P5 a dispatch of a P2 entry and then one of a P0 entry give the manual's two lists. -/
def Obligations.DispatchMovesThePortToTheTail : Prop :=
  ∀ (s : State) (e : Entry) (l : Line) (before after : List Port),
    s.porAsserted = false → s.partState = .online ∨ s.partState = .draining → s.link = .up →
    (∃ t : Tag, s.tags[t] = .free) → s.choice = some e → e.line = some l → GrantLaw s →
    s.grantOrder = before ++ e.port :: after →
    ∃ t, exec .dispatch s = .next t ∧ t.grantOrder = before ++ after ++ [e.port] ∧
      (after = [] → t.grantOrder = s.grantOrder) ∧
      (s.grantOrder = [0, 1, 2, 3, 4, 5] → e.port = 2 → t.grantOrder = [0, 1, 3, 4, 5, 2]) ∧
      (s.grantOrder = [0, 1, 3, 4, 5, 2] → e.port = 0 → t.grantOrder = [1, 3, 4, 5, 2, 0])

/-! ## Completions, timeouts and the link -/

/-- A completion for a BUSY tag frees the tag, ends the bank's operation, has the reservation and fault-list effects of
the outcome, and hands the end to the table with the status and data of the outcome. A read's DONE or DONE_CORRECTED
without data counts as DATA_ERROR. -/
def Obligations.CompletionEndsTheBoundOperation : Prop :=
  ∀ (s : State) (t : Tag) (m : Completion) (e : Entry) (l : Line) (i : Nat),
    s.porAsserted = false → ArrivalLaw s → m.tag = t.val → s.tags[t] = .busy e.arrival i → e ∈ s.entries →
    e.line = some l → e.kind ≠ .barrier →
    let read := e.kind = .read ∨ e.kind = .readReserve
    let fullLine := (e.kind = .write ∧ e.mask = none) ∨ e.kind = .writeConditional
    let h := holderOf e.port e.context
    let failed := m.outcome = .dataError ∨ (read ∧ m.data = none)
    ∃ u : State,
      exec (.completion m) s = .next (u.endOperation e
        (if failed then .poisoned else if read ∧ m.outcome = .doneCorrected then .okCorrected else .ok)
        (if read ∧ ¬ failed then m.data else none)) ∧
      u.tags = s.tags.set t .free ∧
      u.banks = s.banks.set (bankOf s.config l)
        (if s.config.recoveryInterval = 0 then .idle else .recovering s.config.recoveryInterval) ∧
      (¬ failed →
        u.reservations = s.reservations ∧
        u.faults = (if fullLine then s.faults.filter (fun f => f.line != l) else s.faults) ∧
        u.notices =
          if read ∧ m.outcome = .doneCorrected then s.notices.post .correctedData (some e.port) (.line l)
          else s.notices) ∧
      (failed → ∃ v : State,
        v = { s with
          tags := u.tags, banks := u.banks
          reservations :=
            if e.kind = .readReserve then s.reservations.set h ((s.reservations[h]).break l .readFailed)
            else s.reservations } ∧
        u = v.recordFault l (if read then .readError else .writeError) e.port) ∧
      u = { s with
        tags := u.tags, banks := u.banks, reservations := u.reservations, faults := u.faults, notices := u.notices }

/-- The end of an operation answers an ISSUED entry and makes the checks that follow. An ORPHANED entry is removed without
response; the checks are made, its port's fencing ends if it was the last orphan, and an emptied table reports so: that the
report comes after the end of fencing is the model's reading of R122 (log entry 14). The end of fencing makes a FENCED port
without an orphan ACTIVE or DISABLED by its enable and posts PORT_RESET_DONE. The report of emptiness makes a DRAINING part
QUIESCED and posts DRAIN_DONE, and has no effect in the other part states. -/
def Obligations.OperationEndAnswersOrRemoves : Prop :=
  ∀ (s : State) (e : Entry) (st : Status) (d : Option Data) (t : Tag) (p : Port),
    (e.state = .issued t → s.endOperation e st d = (s.answer e.arrival st d).settle) ∧
    (e.state = .orphaned t →
      let v : State := { s with entries := s.entries.filter fun x => x.arrival != e.arrival }
      (v.entries ≠ [] → s.endOperation e st d = v.settle.endFencing e.port) ∧
      (v.entries = [] → s.endOperation e st d = (v.settle.endFencing e.port).reportEmpty)) ∧
    (s.ports[p].state = .fenced → (∀ x ∈ s.entries, x.port = p → x.isOrphaned = false) →
      s.endFencing p = { s with
        ports := s.ports.set p ⟨if s.config.ports[p].enable then .active else .disabled, s.ports[p].responses⟩
        notices := s.notices.post .portResetDone (some p) .none }) ∧
    (s.ports[p].state ≠ .fenced ∨ (∃ x ∈ s.entries, x.port = p ∧ x.isOrphaned = true) → s.endFencing p = s) ∧
    (s.partState = .draining →
      s.reportEmpty = { s with partState := .quiesced, notices := s.notices.post .drainDone none .none }) ∧
    (s.partState ≠ .draining → s.reportEmpty = s)

/-- A completion for a QUARANTINED tag frees it and posts LATE_COMPLETION; one for a FREE tag, or for a number from 12
upward, posts STRAY_COMPLETION. Nothing else changes. -/
def Obligations.LateAndStrayCompletionsAreDiscarded : Prop :=
  ∀ (s : State) (m : Completion), s.porAsserted = false →
    (∀ (t : Tag) (op : LinkOperation) (l : Line) (p : Port), m.tag = t.val → s.tags[t] = .quarantined op l p →
      exec (.completion m) s = .next
        { s with tags := s.tags.set t .free, notices := s.notices.post .lateCompletion none (.tag m.tag) }) ∧
    ((∃ t : Tag, m.tag = t.val ∧ s.tags[t] = .free) ∨ 12 ≤ m.tag →
      exec (.completion m) s = .next
        { s with notices := s.notices.post .strayCompletion none (.tag m.tag) })

/-- When the completion timer of a BUSY tag runs out, the tag is QUARANTINED with the operation, line and port of its
entry, the bank's operation ends, a reserving read breaks its record with READ_FAILED, a write records WRITE_TIMEOUT, the
end is handed to the table with TIMEOUT, and then COMPLETION_TIMEOUT is posted. A tag that is not BUSY has no timer, and
nothing changes (log entry 3). -/
def Obligations.TimeoutQuarantinesTheTag : Prop :=
  ∀ (s : State) (t : Tag), s.porAsserted = false →
    ((∀ n i, s.tags[t] ≠ .busy n i) → exec (.completionTimeout t) s = .next s) ∧
    ∀ (e : Entry) (l : Line) (i : Nat),
    ArrivalLaw s → s.tags[t] = .busy e.arrival i → e ∈ s.entries → e.line = some l → e.kind ≠ .barrier →
    let h := holderOf e.port e.context
    let write := e.kind = .write ∨ e.kind = .writeConditional
    let v : State :=
      { s with
        tags := s.tags.set t (.quarantined (if write then .write else .read) l e.port)
        banks := s.banks.set (bankOf s.config l)
          (if s.config.recoveryInterval = 0 then .idle else .recovering s.config.recoveryInterval)
        reservations :=
          if e.kind = .readReserve then s.reservations.set h ((s.reservations[h]).break l .readFailed)
          else s.reservations }
    exec (.completionTimeout t) s = .next
      (State.post
        (State.endOperation (if write then v.recordFault l .writeTimeout e.port else v) e .timeout none)
        .completionTimeout (some e.port) (.tag t.val))

/-- The recording of a fault: an unlisted line is added at the tail with FAULT_RECORDED while fewer than 8 records are
held, a listed line changes nothing of the list, and a full list posts FAULT_LIST_FULL. In all three cases every record
LIVE on the line becomes BROKEN with FAULT, and no other record changes. -/
def Obligations.FaultRecordingBreaksReservations : Prop :=
  ∀ (s : State) (l : Line) (cause : FaultCause) (p : Port),
    let t := s.recordFault l cause p
    (∀ h : Holder,
      (∀ i, s.reservations[h].state = .live l i →
        t.reservations[h] = ⟨.broken l .fault, s.reservations[h].failures⟩) ∧
      ((∀ i, s.reservations[h].state ≠ .live l i) → t.reservations[h] = s.reservations[h])) ∧
    ((∃ f ∈ s.faults, f.line = l) → t.faults = s.faults ∧ t.notices = s.notices) ∧
    ((∀ f ∈ s.faults, f.line ≠ l) → s.faults.length < 8 →
      t.faults = s.faults ++ [⟨l, cause, p⟩] ∧ t.notices = s.notices.post .faultRecorded (some p) (.line l)) ∧
    ((∀ f ∈ s.faults, f.line ≠ l) → 8 ≤ s.faults.length →
      t.faults = s.faults ∧ t.notices = s.notices.post .faultListFull (some p) (.line l)) ∧
    t = { s with faults := t.faults, notices := t.notices, reservations := t.reservations }

/-- The partner's LINK_UP makes the link UP and changes nothing else. While the link is DOWN the partner's LINK_DOWN has
no effect, and the LINK_RESET command only sends LINK_RESET and leaves its result. -/
def Obligations.LinkSignalsWithoutAnAbort : Prop :=
  ∀ (s : State) (args : CommandArguments), s.porAsserted = false →
    exec .linkUp s = .next { s with link := .up } ∧
    (s.link = .down →
      exec .linkDown s = .next s ∧
      exec (.linkReset args) s = .next
        { s with
          linkOut := s.linkOut ++ [.linkReset]
          frameOut := s.frameOut ++ [⟨s.mgmt.frameStatus, []⟩]
          mgmt := { s.mgmt with result := .done, resultCode := 5, frameStatus := .ok } })

/-- A link abort, by LINK_DOWN or by the LINK_RESET command. First each outstanding READ_RESERVE, ISSUED or ORPHANED, has
its holder's record broken with READ_FAILED if it is LIVE on the line; then each outstanding write has WRITE_ABORTED
recorded on its line, in arrival order, which breaks with FAULT any record LIVE there: the model's reading, against the
closing sentence of R129 (log entry 29); then the entries are ended with ABORTED in arrival order, each with what follows it
before the next (log entry 12); then every tag is FREE, every bank IDLE, the link DOWN, and LINK_DOWN is posted on the queue
that this left. No entry stays ISSUED or ORPHANED; an ISSUED entry is answered ABORTED; the line of an outstanding write is
listed before the ends unless the list is full. The configuration, the grant order list and every other output stay; the
command sends LINK_RESET first, and leaves DONE with code 5. -/
def Obligations.LinkAbortEndsEveryOperation : Prop :=
  ∀ (s : State) (args : CommandArguments), s.porAsserted = false → s.link = .up →
    let bound := s.entries.filter fun e => e.isIssued || e.isOrphaned
    let s1 := bound.foldl (fun (u : State) e =>
      match e.kind, e.line with
      | .readReserve, some l =>
        let h := holderOf e.port e.context
        { u with reservations := u.reservations.set h ((u.reservations[h]).break l .readFailed) }
      | _, _ => u) s
    let s2 := bound.foldl (fun (u : State) e =>
      match e.line with
      | some l => if e.kind = .write ∨ e.kind = .writeConditional then u.recordFault l .writeAborted e.port else u
      | none => u) s1
    let s3 := bound.foldl (fun (u : State) e => u.endOperation e .aborted none) s2
    let t : State :=
      { s3 with
        tags := Vector.replicate 12 .free, banks := Vector.replicate 32 .idle, link := .down
        notices := s3.notices.post .linkDown none .none }
    exec .linkDown s = .next t ∧
      (s2.guards = s.guards ∧ s2.entries = s.entries ∧ s2.ports = s.ports) ∧
      (∀ e ∈ bound, ∀ l, e.line = some l → e.kind = .write ∨ e.kind = .writeConditional →
        (∃ f ∈ s2.faults, f.line = l) ∨ 8 ≤ s2.faults.length) ∧
      (∀ e ∈ t.entries, e.isIssued = false ∧ e.isOrphaned = false) ∧
      (ArrivalLaw s → ∀ e ∈ s.entries, e.isIssued = true →
        (∃ r ∈ t.ports[e.port].responses, r.portTag = e.portTag ∧ r.status = .aborted) ∨
        ∃ x ∈ t.entries, x.arrival = e.arrival ∧ ∃ n, x.state = .answered .aborted n) ∧
      (∀ e ∈ bound, e.kind = .readReserve →
        ∀ l i, e.line = some l → t.reservations[holderOf e.port e.context].state ≠ .live l i) ∧
      t = { s with
        tags := t.tags, banks := t.banks, link := t.link, entries := t.entries, nextAnswer := t.nextAnswer
        ports := t.ports, reservations := t.reservations, guards := t.guards, faults := t.faults
        notices := t.notices, partState := t.partState } ∧
      ∃ t', exec .linkDown { s with linkOut := s.linkOut ++ [.linkReset] } = .next t' ∧
        exec (.linkReset args) s = .next
          { t' with
            frameOut := s.frameOut ++ [⟨s.mgmt.frameStatus, []⟩]
            mgmt := { s.mgmt with result := .done, resultCode := 5, frameStatus := .ok } }

/-! ## Timers -/

/-- When the lifetime timer of a LIVE record runs out the record becomes BROKEN with EXPIRED, keeping its line and the
failure count. When the recovery timer of a RECOVERING bank runs out the bank becomes IDLE. A record in another state has
no timer, and nothing changes (log entry 3). -/
def Obligations.ReservationAndRecoveryTimersRunOut : Prop :=
  ∀ (s : State) (h : Holder) (b : BankNo), s.porAsserted = false →
    (∀ l i, s.reservations[h].state = .live l i →
      exec (.reservationExpiry h) s = .next
        { s with reservations := s.reservations.set h ⟨.broken l .expired, s.reservations[h].failures⟩ }) ∧
    ((∀ l i, s.reservations[h].state ≠ .live l i) → exec (.reservationExpiry h) s = .next s) ∧
    (∀ i, s.banks[b] = .recovering i → exec (.bankRecoveryExpiry b) s = .next { s with banks := s.banks.set b .idle }) ∧
    ((∀ i, s.banks[b] ≠ .recovering i) → exec (.bankRecoveryExpiry b) s = .next s)

/-! ## Commands of the management link -/

/-- GO_ONLINE makes an OFFLINE or QUIESCED part ONLINE when a port's enable is on, and fails with CONFIG_INVALID when
none is; it abandons a drain without the check; in ONLINE it gives STATE_ERROR. The frame shifts out the status before it
and holds OK, and the result and the code stand in the command result word; nothing else changes. -/
def Obligations.GoOnlineByPartState : Prop :=
  ∀ (s : State) (args : CommandArguments), s.porAsserted = false →
    let ended (p : PartState) (r : CommandResult) : State :=
      { s with
        partState := p
        frameOut := s.frameOut ++ [⟨s.mgmt.frameStatus, []⟩]
        mgmt := { s.mgmt with result := r, resultCode := 1, frameStatus := .ok } }
    (s.partState = .offline ∨ s.partState = .quiesced →
      ((∃ p : Port, s.config.ports[p].enable = true) → exec (.goOnline args) s = .next (ended .online .done)) ∧
      ((∀ p : Port, s.config.ports[p].enable = false) →
        exec (.goOnline args) s = .next (ended s.partState .configInvalid))) ∧
    (s.partState = .draining → exec (.goOnline args) s = .next (ended .online .done)) ∧
    (s.partState = .online → exec (.goOnline args) s = .next (ended .online .stateError))

/-- DRAIN takes an ONLINE part to DRAINING, or with an empty table straight to QUIESCED with DRAIN_DONE; from any other
state it changes nothing and its result is STATE_ERROR. -/
def Obligations.DrainByPartState : Prop :=
  ∀ (s : State) (args : CommandArguments), s.porAsserted = false →
    let ended (p : PartState) (q : NoticeQueue) (r : CommandResult) : State :=
      { s with
        partState := p
        notices := q
        frameOut := s.frameOut ++ [⟨s.mgmt.frameStatus, []⟩]
        mgmt := { s.mgmt with result := r, resultCode := 2, frameStatus := .ok } }
    (s.partState = .online → s.entries ≠ [] → exec (.drain args) s = .next (ended .draining s.notices .done)) ∧
    (s.partState = .online → s.entries = [] →
      exec (.drain args) s = .next (ended .quiesced (s.notices.post .drainDone none .none) .done)) ∧
    (s.partState ≠ .online → exec (.drain args) s = .next (ended s.partState s.notices .stateError))

/-- FULL_RESET returns every block to its reset values, keeps the configuration, the notice mask, the line argument word
and the selector, sets each port by its enable, sends LINK_RESET, and leaves DONE with code 3. -/
def Obligations.FullResetReturnsEveryBlock : Prop :=
  ∀ (s : State) (args : CommandArguments), s.porAsserted = false →
    ∃ t, exec (.fullReset args) s = .next t ∧
      (∀ p : Port, t.ports[p] = ⟨if s.config.ports[p].enable then .active else .disabled, []⟩) ∧
      t = { State.reset with
        config := s.config
        ports := t.ports
        notices := ⟨[], false, s.notices.mask⟩
        mgmt := { s.mgmt with noticeDetail := 0, result := .done, resultCode := 3, frameStatus := .ok }
        wires := s.wires, frames := s.frames, linkOut := s.linkOut ++ [.linkReset]
        delivered := s.delivered, frameOut := s.frameOut ++ [⟨s.mgmt.frameStatus, []⟩], pending := s.pending }

/-- The PORT_RESET command resets the port its argument names, as PRST_n does, with result DONE; a port argument of 6 or
7 resets no port and gives BAD_ARGUMENT. -/
def Obligations.PortResetCommandNamesItsPort : Prop :=
  ∀ (s : State) (args : CommandArguments), s.porAsserted = false →
    let ended (t : State) (r : CommandResult) : State :=
      { t with
        frameOut := s.frameOut ++ [⟨s.mgmt.frameStatus, []⟩]
        mgmt := { s.mgmt with result := r, resultCode := 4, frameStatus := .ok } }
    (∀ p : Port, (args.extractLsb' 16 3).toNat = p.val →
      ∃ t, exec (.prstNAsserted p) s = .next t ∧ exec (.portReset args) s = .next (ended t .done)) ∧
    (6 ≤ (args.extractLsb' 16 3).toNat → exec (.portReset args) s = .next (ended s .badArgument))

/-- CLEAR_FAULT removes the record of the line formed from bits 1–0 of its frame and the line argument word, giving DONE,
and gives BAD_ARGUMENT when the line is not listed; CLEAR_ALL_FAULTS removes every record; an unknown code gives
BAD_ARGUMENT and changes nothing else. -/
def Obligations.ClearingAndUnknownCommands : Prop :=
  ∀ (s : State) (args : CommandArguments), s.porAsserted = false →
    let l : Line := args.extractLsb' 0 2 ++ s.mgmt.lineArgument
    let ended (fs : List FaultRecord) (code : Byte) (r : CommandResult) : State :=
      { s with
        faults := fs
        frameOut := s.frameOut ++ [⟨s.mgmt.frameStatus, []⟩]
        mgmt := { s.mgmt with result := r, resultCode := code, frameStatus := .ok } }
    ((∃ f ∈ s.faults, f.line = l) →
      exec (.clearFault args) s = .next (ended (s.faults.filter fun f => f.line != l) 6 .done)) ∧
    ((∀ f ∈ s.faults, f.line ≠ l) → exec (.clearFault args) s = .next (ended s.faults 6 .badArgument)) ∧
    exec (.clearAllFaults args) s = .next (ended [] 7 .done) ∧
    ∀ code : Byte, code = 0 ∨ 8 ≤ code.toNat →
      exec (.unknownCommand code args) s = .next (ended s.faults code .badArgument)

/-! ## Frames -/

/-- A configuration write is denied whole in ONLINE and DRAINING, and in every part state when a field of the word lies
outside its range: it stores nothing and leaves the status DENIED. -/
def Obligations.ConfigurationWriteDeniedWhole : Prop :=
  ∀ (s : State) (w : ConfigWord) (v : Word), s.porAsserted = false →
    (s.partState = .online ∨ s.partState = .draining ∨
      (match w with
       | .memorySize => ¬ (26 ≤ field v 5 0 ∧ field v 5 0 ≤ 40)
       | .port _ => ¬ (4 ≤ field v 13 8 ∧ field v 13 8 ≤ 40)
       | .banks => field v 1 0 = 3 ∨ ¬ (6 ≤ field v 12 8 ∧ field v 12 8 ≤ 20)
       | .lifetimes => field v 9 0 = 0 ∨ field v 25 16 = 0
       | .completionTimeout => field v 15 0 = 0
       | .scheduling => field v 4 0 = 0 ∨ field v 11 8 = 0)) →
    exec (.configurationWrite w v) s = .next
      { s with
        frameOut := s.frameOut ++ [⟨s.mgmt.frameStatus, []⟩], mgmt := { s.mgmt with frameStatus := .denied } }

/-- In OFFLINE and QUIESCED a configuration write with every field of its word in range is taken: it stores the fields of
its word and keeps those of every other; a port whose enable changes stands by it at once, and every other port stays; no
running timer changes; the frame leaves OK. Failure counts are capped at the threshold stored, at a write of any word:
where the word is not the scheduling word that is the model's reading (log entry 26), and FailureLaw leaves it nothing to
change. -/
def Obligations.ConfigurationWriteTakenWhole : Prop :=
  ∀ (s : State) (w : ConfigWord) (v : Word), s.porAsserted = false →
    s.partState = .offline ∨ s.partState = .quiesced →
    (match w with
     | .memorySize => 26 ≤ field v 5 0 ∧ field v 5 0 ≤ 40
     | .port _ => 4 ≤ field v 13 8 ∧ field v 13 8 ≤ 40
     | .banks => field v 1 0 ≠ 3 ∧ 6 ≤ field v 12 8 ∧ field v 12 8 ≤ 20
     | .lifetimes => 1 ≤ field v 9 0 ∧ 1 ≤ field v 25 16
     | .completionTimeout => 1 ≤ field v 15 0
     | .scheduling => 1 ≤ field v 4 0 ∧ 1 ≤ field v 11 8) →
    let c : Configuration :=
      match w with
      | .memorySize => { s.config with memorySizeLog2 := field v 5 0 }
      | .port p =>
        { s.config with ports :=
            s.config.ports.set p ⟨v.getLsbD 0, if v.getLsbD 1 then .strict else .line, field v 13 8⟩ }
      | .banks =>
        { s.config with
          bankCount := if field v 1 0 = 0 then .eight else if field v 1 0 = 1 then .sixteen else .thirtyTwo
          bankMapping := if v.getLsbD 4 then .folded else .linear
          foldShift := field v 12 8, recoveryInterval := field v 21 16 }
      | .lifetimes => { s.config with reservationLifetime := field v 9 0, guardLifetime := field v 25 16 }
      | .completionTimeout => { s.config with completionTimeout := field v 15 0 }
      | .scheduling => { s.config with bypassLimit := field v 4 0, failureThreshold := field v 11 8 }
    ∃ t, exec (.configurationWrite w v) s = .next t ∧ s.config.write w v = some c ∧ t.config = c ∧
      (∀ w' : ConfigWord, w' ≠ w → c.word w' = s.config.word w') ∧
      (∀ h : Holder, t.reservations[h] =
        ⟨s.reservations[h].state, min s.reservations[h].failures c.failureThreshold⟩) ∧
      (∀ p : Port, t.ports[p] =
        if c.ports[p].enable = s.config.ports[p].enable then s.ports[p]
        else ⟨if c.ports[p].enable then .active else .disabled, s.ports[p].responses⟩) ∧
      t = { s with
        config := t.config, reservations := t.reservations, ports := t.ports
        frameOut := s.frameOut ++ [⟨s.mgmt.frameStatus, []⟩], mgmt := { s.mgmt with frameStatus := .ok } }

/-- A configuration word that a write stored reads back as the value written, with the bits that the word does not name
read as 0, and stands in the window at the word's address. Word 0 is the identification, part number 440, vendor code 71
and revision 1; word 3 the line argument; word 19 the notice mask; word 20 the selector's class code and index. -/
def Obligations.StoredConfigurationReadsBack : Prop :=
  (∀ (s : State) (w : ConfigWord),
    s.wordAt w.address = s.config.word w ∧
    w.address.toNat =
      (match w with
       | .memorySize => 5
       | .port p => 6 + p.val
       | .banks => 12
       | .lifetimes => 13
       | .completionTimeout => 14
       | .scheduling => 15)) ∧
  (∀ s : State,
    (s.wordAt 0).toNat = 440 * 2 ^ 16 + 71 * 2 ^ 8 + 1 ∧ s.wordAt 3 = s.mgmt.lineArgument ∧
    s.wordAt 19 = s.notices.mask ∧
    (s.wordAt 20).toNat =
      (match s.mgmt.selectorClass with | .tag => 0 | .reservation => 1 | .guard => 2 | .fault => 3 | .bank => 4) +
        s.mgmt.selectorIndex.toNat * 2 ^ 8) ∧
  ∀ (c d : Configuration) (w : ConfigWord) (v : Word), c.write w v = some d →
    d.word w = v &&&
      (match w with
       | .memorySize => 0x0000003F#32
       | .port _ => 0x00003F03#32
       | .banks => 0x003F1F13#32
       | .lifetimes => 0x03FF03FF#32
       | .completionTimeout => 0x0000FFFF#32
       | .scheduling => 0x00000F1F#32)

/-- The notice mask word, the read-out selector, whose classes 0 to 4 have 12, 12, 4, 8 and 32 indexes, the line argument
word and the read-only words under a write. A complete frame outside the window, or with an operation byte other than 1 or 2, shifts out four zero bytes, stores nothing and leaves
the status BAD_ADDRESS; for a write frame the zero bytes are those of the command table's row (log entry 9). -/
def Obligations.OtherWritesStoreOrAreDenied : Prop :=
  ∀ (s : State) (v : Word), s.porAsserted = false →
    let ended (q : NoticeQueue) (m : ManagementLink) (st : FrameStatus) : State :=
      { s with
        notices := q, frameOut := s.frameOut ++ [⟨s.mgmt.frameStatus, []⟩], mgmt := { m with frameStatus := st } }
    exec (.noticeMaskWrite v) s = .next (ended { s.notices with mask := v &&& 0x3FFE#32 } s.mgmt .ok) ∧
    (∀ c : ReadOutClass, (c.code, c.size) =
      (match c with | .tag => (0, 12) | .reservation => (1, 12) | .guard => (2, 4) | .fault => (3, 8) | .bank => (4, 32))) ∧
    (∀ c : ReadOutClass, field v 2 0 = c.code → field v 12 8 < c.size →
      exec (.readOutSelectorWrite v) s = .next
        (ended s.notices { s.mgmt with selectorClass := c, selectorIndex := v.extractLsb' 8 5 } .ok)) ∧
    (5 ≤ field v 2 0 ∨ (∃ c : ReadOutClass, field v 2 0 = c.code ∧ c.size ≤ field v 12 8) →
      exec (.readOutSelectorWrite v) s = .next (ended s.notices s.mgmt .denied)) ∧
    exec (.registerWrite .lineArgument v) s = .next (ended s.notices { s.mgmt with lineArgument := v } .ok) ∧
    (∀ w : OtherWord, w ≠ .lineArgument → exec (.registerWrite w v) s = .next (ended s.notices s.mgmt .denied)) ∧
    ∀ op address : Byte, (op ≠ 1 ∧ op ≠ 2) ∨ 30 ≤ address.toNat →
      exec (.badAddress op address) s = .next
        { s with
          frameOut := s.frameOut ++ [⟨s.mgmt.frameStatus, [0, 0, 0, 0]⟩]
          mgmt := { s.mgmt with frameStatus := .badAddress } }

/-- A read of the notice head, complete or cut short after its address byte, returns and removes the oldest entry and loads
the notice detail word; on an empty queue it returns 0 and loads 0. A read of the notice status clears the overflow flag.
Only a complete frame leaves a status. Word 16 shows the kind by its code, the port or 7, the count, the refusal reason and
bits 33–32 of a line; word 17 what was loaded; word 18 the number of entries, the overflow flag and ALERT. That a tag number
is without bound, of which the detail word takes the low 32 bits, is the model's choice (log entry 16), and so is the count
of data bytes that the read commands carry (log entry 28). -/
def Obligations.NoticeReadsPopAndClear : Prop :=
  ∀ (s : State) (n : Nat), s.porAsserted = false →
    let status (st : FrameStatus) : FrameStatus := if 4 ≤ n then .ok else st
    let shifted (w : Word) : List FrameOut := s.frameOut ++ [⟨s.mgmt.frameStatus, (bytesOf w).take n⟩]
    (s.notices.entries = [] → s.wordAt 16 = 0 ∧
      exec (.noticeHeadRead n) s = .next
        { s with
          frameOut := shifted (s.wordAt 16)
          mgmt := { s.mgmt with noticeDetail := 0, frameStatus := status s.mgmt.frameStatus } }) ∧
    (∀ (e : Notice) (rest : List Notice), s.notices.entries = e :: rest →
      exec (.noticeHeadRead n) s = .next
        { s with
          notices := { s.notices with entries := rest }
          frameOut := shifted (s.wordAt 16)
          mgmt := { s.mgmt with
            noticeDetail :=
              (match e.detail with
               | .none => 0
               | .line l => l.extractLsb' 0 32
               | .refusedLine l _ => l.extractLsb' 0 32
               | .tag k => BitVec.ofNat 32 k
               | .portTag t => t.setWidth 32)
            frameStatus := status s.mgmt.frameStatus } } ∧
      (NoticeLaw s →
        let w := s.wordAt 16
        field w 4 0 = e.kind.code ∧
        field w 10 8 = (match e.port with | some p => p.val | none => 7) ∧
        field w 23 16 = e.count ∧
        field w 25 24 =
          (match e.detail with | .refusedLine _ .lineGuarded => 1 | .refusedLine _ .tableFull => 2 | _ => 0) ∧
        field w 29 28 =
          (match e.detail with | .line l => l.toNat / 2 ^ 32 | .refusedLine l _ => l.toNat / 2 ^ 32 | _ => 0))) ∧
    exec (.noticeStatusRead n) s = .next
      { s with
        notices := { s.notices with overflow := false }
        frameOut := shifted (s.wordAt 18)
        mgmt := { s.mgmt with frameStatus := status s.mgmt.frameStatus } } ∧
    s.wordAt 17 = s.mgmt.noticeDetail ∧
    (NoticeLaw s →
      field (s.wordAt 18) 4 0 = s.notices.entries.length ∧ field (s.wordAt 18) 8 8 = s.notices.overflow.toNat ∧
      field (s.wordAt 18) 9 9 = (if s.notices.entries = [] then 0 else 1)) ∧
    [NoticeKind.guardGranted, .guardRefused, .guardExpired, .faultRecorded, .faultListFull, .correctedData,
      .completionTimeout, .lateCompletion, .strayCompletion, .tagInUse, .linkDown, .drainDone, .portResetDone].map
        NoticeKind.code = [1, 2, 3, 4, 5, 6, 7, 8, 9, 10, 11, 12, 13]

/-- A read frame of a word other than the notice head and the notice status, complete or cut short after its address byte,
shifts out the bytes of the word and changes no block; only a complete frame leaves a status, OK in the window and
BAD_ADDRESS outside it. A frame cut short shifts out the status alone, and zeros in the data bytes of a bad operation; a
frame of no byte shifts out nothing. These frames have no row in the command table (log entry 8). -/
def Obligations.QuietReadsChangeNoBlock : Prop :=
  ∀ (s : State) (a : Byte) (n : Nat), a ≠ 16 → a ≠ 18 →
    s.quietFrame (.read a n) =
      { s with
        frameOut := s.frameOut ++ [⟨s.mgmt.frameStatus, (bytesOf (s.wordAt a)).take n⟩]
        mgmt := { s.mgmt with
          frameStatus := if n < 4 then s.mgmt.frameStatus else if a.toNat < 30 then .ok else .badAddress } } ∧
    s.quietFrame .cutShort = { s with frameOut := s.frameOut ++ [⟨s.mgmt.frameStatus, []⟩] } ∧
    s.quietFrame (.badOperation n) =
      { s with frameOut := s.frameOut ++ [⟨s.mgmt.frameStatus, List.replicate (min n 4) 0⟩] } ∧
    s.quietFrame .empty = s ∧
    (30 ≤ a.toNat → s.wordAt a = 0) ∧ s.wordAt 2 = 0

/-- The frame of every command of the management link decodes to that command, with any bytes after its fourth data byte for
all but the two notice reads, which count them; every command that a frame spells is well formed. -/
def Obligations.FramesDecodeToTheirCommands : Prop :=
  (∀ (c : Instr) (f extra : List Byte), c.wellFormed = true → frameOf c = some f →
    decodeFrame f = .command c ∧
    ((∀ n, c ≠ .noticeHeadRead n ∧ c ≠ .noticeStatusRead n) → decodeFrame (f ++ extra) = .command c)) ∧
  ∀ (bytes : List Byte) (c : Instr), decodeFrame bytes = .command c → c.wellFormed = true

/-- A complete write frame to the command word selects its command by bits 31 to 24 of the word, whose other bits are its
arguments; the four data bytes come most significant first, and bytes after them are ignored. A write frame with fewer data
bytes is no command. -/
def Obligations.CommandWordSelectsTheCommand : Prop :=
  ∀ (v : Word) (extra : List Byte),
    let args : CommandArguments := v.extractLsb' 0 24
    let frame : List Byte :=
      [2, 2, BitVec.ofNat 8 (field v 31 24), BitVec.ofNat 8 (field v 23 16), BitVec.ofNat 8 (field v 15 8),
        BitVec.ofNat 8 (field v 7 0)]
    decodeFrame (frame ++ extra) = .command
      (if field v 31 24 = 1 then .goOnline args
       else if field v 31 24 = 2 then .drain args
       else if field v 31 24 = 3 then .fullReset args
       else if field v 31 24 = 4 then .portReset args
       else if field v 31 24 = 5 then .linkReset args
       else if field v 31 24 = 6 then .clearFault args
       else if field v 31 24 = 7 then .clearAllFaults args
       else .unknownCommand (v.extractLsb' 24 8) args) ∧
    ∀ (a : Byte) (data : List Byte), data.length < 4 → decodeFrame (2 :: a :: data) = .quiet .cutShort

/-- The read-out descriptor and the read-out line show the record that the selector names: its state by the manual's code,
the fields its class gives it, and its line in 34 bits. A field that the record does not hold reads 0. -/
def Obligations.ReadOutShowsTheSelectedRecord : Prop :=
  ∀ s : State, ArrivalLaw s → TableLaw s → ConfigurationLaw s → FailureLaw s → TagLaw s →
    let d := s.wordAt 21
    let line : Line := d.extractLsb' 30 2 ++ s.wordAt 22
    (s.mgmt.selectorClass = .tag → ∀ t : Tag, s.mgmt.selectorIndex.toNat = t.val →
      field d 1 0 = (match s.tags[t] with | .free => 0 | .busy _ _ => 1 | .quarantined _ _ _ => 2) ∧
      (s.tags[t] = .free → d = 0 ∧ s.wordAt 22 = 0) ∧
      (∀ e ∈ s.entries, ∀ l, e.line = some l → (e.state = .issued t ∨ e.state = .orphaned t) →
        field d 6 4 = e.port.val ∧ field d 8 8 = (if e.state = .orphaned t then 1 else 0) ∧ field d 9 9 = 0 ∧ line = l) ∧
      ∀ op l p, s.tags[t] = .quarantined op l p →
        field d 6 4 = p.val ∧ field d 8 8 = 0 ∧ field d 9 9 = (if op = .write then 1 else 0) ∧ line = l) ∧
    (s.mgmt.selectorClass = .reservation → ∀ h : Holder, s.mgmt.selectorIndex.toNat = h.val →
      field d 1 0 = (match s.reservations[h].state with | .idle => 0 | .live _ _ => 1 | .broken _ _ => 2) ∧
      field d 11 8 = s.reservations[h].failures ∧
      (s.reservations[h].state = .idle → field d 6 4 = 0 ∧ line = 0) ∧
      (∀ l i, s.reservations[h].state = .live l i → field d 6 4 = 0 ∧ line = l) ∧
      ∀ l why, s.reservations[h].state = .broken l why →
        field d 6 4 = (match why with | .conflict => 1 | .expired => 2 | .fault => 3 | .readFailed => 4) ∧ line = l) ∧
    (s.mgmt.selectorClass = .guard → ∀ g : GuardNo, s.mgmt.selectorIndex.toNat = g.val →
      (s.guards[g] = .free → d = 0 ∧ s.wordAt 22 = 0) ∧
      ∀ l o i, s.guards[g] = .active l o i →
        field d 0 0 = 1 ∧ field d 7 4 = o.val ∧ field d 22 16 = (s.deferredList g).length ∧ line = l) ∧
    (s.mgmt.selectorClass = .fault →
      (∀ f, s.faults[s.mgmt.selectorIndex.toNat]? = some f →
        field d 0 0 = 1 ∧
        field d 6 4 =
          (match f.cause with | .readError => 1 | .writeError => 2 | .writeTimeout => 3 | .writeAborted => 4) ∧
        field d 10 8 = f.port.val ∧ line = f.line) ∧
      (s.faults[s.mgmt.selectorIndex.toNat]? = none → d = 0 ∧ s.wordAt 22 = 0)) ∧
    (s.mgmt.selectorClass = .bank → ∀ b : BankNo, s.mgmt.selectorIndex.toNat = b.val →
      field d 1 0 = (match s.banks[b] with | .idle => 0 | .busy _ => 1 | .recovering _ => 2) ∧ line = 0 ∧
      (∀ t, s.banks[b] = .busy t → field d 11 8 = t.val) ∧
      ((∀ t, s.banks[b] ≠ .busy t) → field d 11 8 = 0))

/-- The summary words 23 to 29 show each record in its own bits: for each port its entry count and its state, tag states
and bank states in two bits each, the grant order in three bits each, the ACTIVE guard records and the number of fault
records. The part state word shows the part state and the link, and the command result word the result and the code. -/
def Obligations.SummaryWordsShowEachRecord : Prop :=
  ∀ s : State, TableLaw s → ConfigurationLaw s → GrantLaw s → FaultLaw s →
    (∀ t : Tag, field (s.wordAt 25) (2 * t.val + 1) (2 * t.val) =
      (match s.tags[t] with | .free => 0 | .busy _ _ => 1 | .quarantined _ _ _ => 2)) ∧
    (∀ b : BankNo, field (s.wordAt (if b.val < 16 then 26 else 27)) (2 * (b.val % 16) + 1) (2 * (b.val % 16)) =
      (match s.banks[b] with | .idle => 0 | .busy _ => 1 | .recovering _ => 2)) ∧
    (∀ i : Fin 6, (s.grantOrder[i.val]?).map Fin.val =
      some (field (s.wordAt 28) (3 * i.val + 2) (3 * i.val))) ∧
    (∀ p : Port, let w := s.wordAt (if p.val < 3 then 23 else 24)
      field w (8 * (p.val % 3) + 5) (8 * (p.val % 3)) = s.entryCount p ∧
      field w (8 * (p.val % 3) + 7) (8 * (p.val % 3) + 6) =
        (match s.ports[p].state with | .disabled => 0 | .active => 1 | .fenced => 2)) ∧
    (∀ g : GuardNo, field (s.wordAt 29) g.val g.val = if s.guards[g] = .free then 0 else 1) ∧
    field (s.wordAt 29) 11 8 = s.faults.length ∧
    (field (s.wordAt 1) 1 0 =
      (match s.partState with | .offline => 0 | .online => 1 | .draining => 2 | .quiesced => 3) ∧
     field (s.wordAt 1) 4 4 = (match s.link with | .down => 0 | .up => 1)) ∧
    field (s.wordAt 4) 3 0 =
      (match s.mgmt.result with | .none => 0 | .done => 1 | .stateError => 2 | .configInvalid => 3 | .badArgument => 4) ∧
    field (s.wordAt 4) 15 8 = s.mgmt.resultCode.toNat

/-! ## Notices -/

/-- A post is discarded when its kind is masked, raises the count of the queued entry of its kind and port up to 255,
makes a new entry at the tail while fewer than 16 are queued, and otherwise sets the overflow flag. -/
def Obligations.PostCoalescesOrQueuesOrOverflows : Prop :=
  ∀ (s : State) (k : NoticeKind) (p : Option Port) (d : Detail),
    let t := s.post k p d
    (s.notices.mask.getLsbD k.code = true → t = s) ∧
    (s.notices.mask.getLsbD k.code = false →
      ((∃ n ∈ s.notices.entries, n.kind = k ∧ n.port = p) →
        t = { s with notices := { s.notices with entries := s.notices.entries.map fun n =>
          if n.kind = k ∧ n.port = p then { n with count := if n.count < 255 then n.count + 1 else n.count }
          else n } }) ∧
      ((∀ n ∈ s.notices.entries, ¬ (n.kind = k ∧ n.port = p)) →
        (s.notices.entries.length < 16 →
          t = { s with notices := { s.notices with entries := s.notices.entries ++ [⟨k, p, 1, d⟩] } }) ∧
        (16 ≤ s.notices.entries.length → t = { s with notices := { s.notices with overflow := true } })))

/-! ## Laws that every step keeps -/

/-- Every law holds at the end of power-on. -/
def Obligations.LawsHoldAtPowerOn : Prop :=
  let s := State.reset
  NoticeLaw s ∧ FaultLaw s ∧ ResponseLaw s ∧ GrantLaw s ∧ ConfigurationLaw s ∧ FailureLaw s ∧ GuardLaw s ∧
  TableLaw s ∧ BypassLaw s ∧ ArrivalLaw s ∧ PortTagLaw s ∧ LineLaw s ∧ KindLaw s ∧ NothingDueLaw s ∧ TagLaw s ∧
  BankLaw s ∧ FenceLaw s ∧ LinkLaw s

/-- Every step keeps the notice queue within 16 entries, one for each kind and port; the fault list within 8 records, one
for each line; every response queue within its 8 places; and the grant order list a list of the six ports. -/
def Obligations.StepKeepsCollectionLaws : Prop :=
  EveryStepKeeps NoticeLaw ∧ EveryStepKeeps FaultLaw ∧ EveryStepKeeps ResponseLaw ∧ EveryStepKeeps GrantLaw

/-- Every step keeps the stored configuration in range and every failure count within the threshold. -/
def Obligations.StepKeepsConfigurationAndFailureLaws : Prop :=
  EveryStepKeeps ConfigurationLaw ∧ EveryStepKeeps FailureLaw

/-- Every step keeps the table within 64 entries and each port within its quota, and empty in OFFLINE and QUIESCED; and
every bypass count within the bypass limit, and 0 on a DEFERRED or HELD entry. -/
def Obligations.StepKeepsTableLaw : Prop :=
  EveryStepKeeps TableLaw ∧ EveryStepKeeps (fun s => TableLaw s ∧ BypassLaw s)

/-- Every step keeps the entries in arrival order, and the port tags of each port's entries distinct. -/
def Obligations.StepKeepsArrivalAndPortTagLaws : Prop := EveryStepKeeps ArrivalLaw ∧ EveryStepKeeps PortTagLaw

/-- Every step keeps at most one guard on a line, and every DEFERRED entry on the list of a guard ACTIVE on its line. -/
def Obligations.StepKeepsGuardLaw : Prop := EveryStepKeeps GuardLaw

/-- Every step keeps at most one entry of a line READY, ISSUED or ORPHANED. -/
def Obligations.StepKeepsLineLaw : Prop := EveryStepKeeps (fun s => ArrivalLaw s ∧ KindLaw s ∧ LineLaw s)

/-- Every step leaves no line-head check and no BARRIER's answer to be made, and keeps PORT_ORDER and BARRIER on a HELD entry
exactly while their conditions hold. -/
def Obligations.StepKeepsNothingDueLaw : Prop :=
  EveryStepKeeps (fun s => ArrivalLaw s ∧ TableLaw s ∧ NothingDueLaw s)

/-- Every step keeps the BUSY tags and the ISSUED and ORPHANED entries bound one to one, and every tag FREE while the
link is DOWN. -/
def Obligations.StepKeepsTagLaw : Prop :=
  EveryStepKeeps (fun s => ArrivalLaw s ∧ KindLaw s ∧ TagLaw s ∧ LinkLaw s)

/-- Every step keeps each bank BUSY exactly with the tag of the one outstanding entry that maps to it. -/
def Obligations.StepKeepsBankLaw : Prop :=
  EveryStepKeeps (fun s => ArrivalLaw s ∧ KindLaw s ∧ TableLaw s ∧ TagLaw s ∧ LinkLaw s ∧ BankLaw s)

/-- Every step keeps a port FENCED exactly while it holds an ORPHANED entry. -/
def Obligations.StepKeepsFenceLaw : Prop :=
  EveryStepKeeps (fun s => ArrivalLaw s ∧ KindLaw s ∧ TableLaw s ∧ TagLaw s ∧ FenceLaw s)
end

