-- ==== Sys2Proof/Laws/Frames.lean ====
section
/-! SUPPORT. What the operations over frames can do: a word through its bytes and back, the command of a command word,
the frame that is taken next, and the fields that a frame without a row may change. -/

namespace Sys2Proof

/-- The four bytes of a word, most significant first, give the word back (R165). -/
@[simp] theorem wordOf_bytesOf (v : Word) :
    wordOf (v.extractLsb' 24 8) (v.extractLsb' 16 8) (v.extractLsb' 8 8) (v.extractLsb' 0 8) = v := by
  apply BitVec.eq_of_getLsbD_eq
  intro i hi
  simp only [wordOf, BitVec.getLsbD_append, BitVec.getLsbD_extractLsb']
  split
  · simp [*]
  · split
    · have h : 8 + (i - 8) = i := by omega
      simp [*]
    · split
      · have h : 16 + (i - 8 - 8) = i := by omega
        simp [*]
      · have h : 24 + (i - 8 - 8 - 8) = i := by omega
        have h8 : i - 8 - 8 - 8 < 8 := by omega
        simp [*]

/-- The high byte of a command word is its code (R169). -/
@[simp] theorem extract_code (code : Byte) (args : CommandArguments) : (code ++ args).extractLsb' 24 8 = code := by
  apply BitVec.eq_of_getLsbD_eq
  intro i hi
  have h : ¬ 24 + i < 24 := by omega
  rw [BitVec.getLsbD_extractLsb', BitVec.getLsbD_append]
  simp [hi, h]

/-- The other bits of a command word are its arguments (R169). -/
@[simp] theorem extract_args (code : Byte) (args : CommandArguments) : (code ++ args).extractLsb' 0 24 = args := by
  apply BitVec.eq_of_getLsbD_eq
  intro i hi
  rw [BitVec.getLsbD_extractLsb', BitVec.getLsbD_append]
  simp [hi]

/-- A complete write frame is the write of its value to its address, whatever follows its fourth data byte (R165). -/
@[simp] theorem decodeFrame_writeFrame (address : Byte) (v : Word) (extra : List Byte) :
    decodeFrame (writeFrameOf address v ++ extra) = .command (writeCommand address v) := by
  simp [writeFrameOf, bytesOf, decodeFrame, decodeWrite]

namespace Machine

/-- Either a frame waits and is taken from the front of those that wait, with POR_n not asserted, or none is taken. -/
theorem State.nextFrame_cases (s : State) :
    (∃ f rest, s.porAsserted = false ∧ s.frames = f :: rest ∧
      s.nextFrame = some (decodeFrame f, { s with frames := rest })) ∨
    ((s.porAsserted = true ∨ s.frames = []) ∧ s.nextFrame = none) := by
  unfold State.nextFrame
  split
  · exact .inl ⟨_, _, ‹_›, ‹_›, rfl⟩
  · exact .inr ⟨.inr ‹_›, rfl⟩
  · exact .inr ⟨.inl ‹_›, rfl⟩
  · exact .inr ⟨.inl ‹_›, rfl⟩

/-- A read frame changes no more than the notice queue, what was shifted out and the link interface's own words. -/
theorem State.readFrame_eq (s : State) (a : Byte) (n : Nat) :
    ∃ q o m, s.readFrame a n = { s with notices := q, frameOut := o, mgmt := m } ∧ q.mask = s.notices.mask := by
  unfold State.readFrame State.readEffect State.popNotice State.clearOverflow State.holdStatus State.shiftOut
  split <;> split <;> (try split) <;> exact ⟨_, _, _, rfl, rfl⟩

/-- A frame without a row changes no more than a read frame does. -/
theorem State.quietFrame_eq (s : State) (f : QuietFrame) :
    ∃ q o m, s.quietFrame f = { s with notices := q, frameOut := o, mgmt := m } ∧ q.mask = s.notices.mask := by
  cases f with
  | empty => exact ⟨_, _, _, rfl, rfl⟩
  | cutShort => exact ⟨_, _, _, rfl, rfl⟩
  | badOperation n => exact ⟨_, _, _, rfl, rfl⟩
  | read a n => exact s.readFrame_eq a n

end Machine

end Sys2Proof
end

