-- ==== Sys2Proof/Laws/State.lean ====
section
/-! SUPPORT. One lemma per field for each update of the state, true by rfl, and what a record reads as after its
update. -/

namespace Sys2Proof.Machine

open Sys2Proof

/-! ## setEntries -/

@[simp] theorem State.setEntries_porAsserted (s : State) (es : List Entry) :
    (s.setEntries es).porAsserted = s.porAsserted := rfl
@[simp] theorem State.setEntries_partState (s : State) (es : List Entry) :
    (s.setEntries es).partState = s.partState := rfl
@[simp] theorem State.setEntries_config (s : State) (es : List Entry) :
    (s.setEntries es).config = s.config := rfl
@[simp] theorem State.setEntries_ports (s : State) (es : List Entry) :
    (s.setEntries es).ports = s.ports := rfl
@[simp] theorem State.setEntries_entries (s : State) (es : List Entry) :
    (s.setEntries es).entries = es := rfl
@[simp] theorem State.setEntries_nextArrival (s : State) (es : List Entry) :
    (s.setEntries es).nextArrival = s.nextArrival := rfl
@[simp] theorem State.setEntries_nextAnswer (s : State) (es : List Entry) :
    (s.setEntries es).nextAnswer = s.nextAnswer := rfl
@[simp] theorem State.setEntries_reservations (s : State) (es : List Entry) :
    (s.setEntries es).reservations = s.reservations := rfl
@[simp] theorem State.setEntries_guards (s : State) (es : List Entry) :
    (s.setEntries es).guards = s.guards := rfl
@[simp] theorem State.setEntries_faults (s : State) (es : List Entry) :
    (s.setEntries es).faults = s.faults := rfl
@[simp] theorem State.setEntries_banks (s : State) (es : List Entry) :
    (s.setEntries es).banks = s.banks := rfl
@[simp] theorem State.setEntries_grantOrder (s : State) (es : List Entry) :
    (s.setEntries es).grantOrder = s.grantOrder := rfl
@[simp] theorem State.setEntries_tags (s : State) (es : List Entry) :
    (s.setEntries es).tags = s.tags := rfl
@[simp] theorem State.setEntries_link (s : State) (es : List Entry) :
    (s.setEntries es).link = s.link := rfl
@[simp] theorem State.setEntries_notices (s : State) (es : List Entry) :
    (s.setEntries es).notices = s.notices := rfl
@[simp] theorem State.setEntries_mgmt (s : State) (es : List Entry) :
    (s.setEntries es).mgmt = s.mgmt := rfl
@[simp] theorem State.setEntries_wires (s : State) (es : List Entry) :
    (s.setEntries es).wires = s.wires := rfl
@[simp] theorem State.setEntries_frames (s : State) (es : List Entry) :
    (s.setEntries es).frames = s.frames := rfl
@[simp] theorem State.setEntries_linkOut (s : State) (es : List Entry) :
    (s.setEntries es).linkOut = s.linkOut := rfl
@[simp] theorem State.setEntries_delivered (s : State) (es : List Entry) :
    (s.setEntries es).delivered = s.delivered := rfl
@[simp] theorem State.setEntries_frameOut (s : State) (es : List Entry) :
    (s.setEntries es).frameOut = s.frameOut := rfl
@[simp] theorem State.setEntries_pending (s : State) (es : List Entry) :
    (s.setEntries es).pending = s.pending := rfl

/-! ## setPort -/

@[simp] theorem State.setPort_porAsserted (s : State) (p : Port) (r : PortRecord) :
    (s.setPort p r).porAsserted = s.porAsserted := rfl
@[simp] theorem State.setPort_partState (s : State) (p : Port) (r : PortRecord) :
    (s.setPort p r).partState = s.partState := rfl
@[simp] theorem State.setPort_config (s : State) (p : Port) (r : PortRecord) :
    (s.setPort p r).config = s.config := rfl
@[simp] theorem State.setPort_ports (s : State) (p : Port) (r : PortRecord) :
    (s.setPort p r).ports = s.ports.set p r := rfl
@[simp] theorem State.setPort_entries (s : State) (p : Port) (r : PortRecord) :
    (s.setPort p r).entries = s.entries := rfl
@[simp] theorem State.setPort_nextArrival (s : State) (p : Port) (r : PortRecord) :
    (s.setPort p r).nextArrival = s.nextArrival := rfl
@[simp] theorem State.setPort_nextAnswer (s : State) (p : Port) (r : PortRecord) :
    (s.setPort p r).nextAnswer = s.nextAnswer := rfl
@[simp] theorem State.setPort_reservations (s : State) (p : Port) (r : PortRecord) :
    (s.setPort p r).reservations = s.reservations := rfl
@[simp] theorem State.setPort_guards (s : State) (p : Port) (r : PortRecord) :
    (s.setPort p r).guards = s.guards := rfl
@[simp] theorem State.setPort_faults (s : State) (p : Port) (r : PortRecord) :
    (s.setPort p r).faults = s.faults := rfl
@[simp] theorem State.setPort_banks (s : State) (p : Port) (r : PortRecord) :
    (s.setPort p r).banks = s.banks := rfl
@[simp] theorem State.setPort_grantOrder (s : State) (p : Port) (r : PortRecord) :
    (s.setPort p r).grantOrder = s.grantOrder := rfl
@[simp] theorem State.setPort_tags (s : State) (p : Port) (r : PortRecord) :
    (s.setPort p r).tags = s.tags := rfl
@[simp] theorem State.setPort_link (s : State) (p : Port) (r : PortRecord) :
    (s.setPort p r).link = s.link := rfl
@[simp] theorem State.setPort_notices (s : State) (p : Port) (r : PortRecord) :
    (s.setPort p r).notices = s.notices := rfl
@[simp] theorem State.setPort_mgmt (s : State) (p : Port) (r : PortRecord) :
    (s.setPort p r).mgmt = s.mgmt := rfl
@[simp] theorem State.setPort_wires (s : State) (p : Port) (r : PortRecord) :
    (s.setPort p r).wires = s.wires := rfl
@[simp] theorem State.setPort_frames (s : State) (p : Port) (r : PortRecord) :
    (s.setPort p r).frames = s.frames := rfl
@[simp] theorem State.setPort_linkOut (s : State) (p : Port) (r : PortRecord) :
    (s.setPort p r).linkOut = s.linkOut := rfl
@[simp] theorem State.setPort_delivered (s : State) (p : Port) (r : PortRecord) :
    (s.setPort p r).delivered = s.delivered := rfl
@[simp] theorem State.setPort_frameOut (s : State) (p : Port) (r : PortRecord) :
    (s.setPort p r).frameOut = s.frameOut := rfl
@[simp] theorem State.setPort_pending (s : State) (p : Port) (r : PortRecord) :
    (s.setPort p r).pending = s.pending := rfl

/-! ## setReservation -/

@[simp] theorem State.setReservation_porAsserted (s : State) (h : Holder) (r : Reservation) :
    (s.setReservation h r).porAsserted = s.porAsserted := rfl
@[simp] theorem State.setReservation_partState (s : State) (h : Holder) (r : Reservation) :
    (s.setReservation h r).partState = s.partState := rfl
@[simp] theorem State.setReservation_config (s : State) (h : Holder) (r : Reservation) :
    (s.setReservation h r).config = s.config := rfl
@[simp] theorem State.setReservation_ports (s : State) (h : Holder) (r : Reservation) :
    (s.setReservation h r).ports = s.ports := rfl
@[simp] theorem State.setReservation_entries (s : State) (h : Holder) (r : Reservation) :
    (s.setReservation h r).entries = s.entries := rfl
@[simp] theorem State.setReservation_nextArrival (s : State) (h : Holder) (r : Reservation) :
    (s.setReservation h r).nextArrival = s.nextArrival := rfl
@[simp] theorem State.setReservation_nextAnswer (s : State) (h : Holder) (r : Reservation) :
    (s.setReservation h r).nextAnswer = s.nextAnswer := rfl
@[simp] theorem State.setReservation_reservations (s : State) (h : Holder) (r : Reservation) :
    (s.setReservation h r).reservations = s.reservations.set h r := rfl
@[simp] theorem State.setReservation_guards (s : State) (h : Holder) (r : Reservation) :
    (s.setReservation h r).guards = s.guards := rfl
@[simp] theorem State.setReservation_faults (s : State) (h : Holder) (r : Reservation) :
    (s.setReservation h r).faults = s.faults := rfl
@[simp] theorem State.setReservation_banks (s : State) (h : Holder) (r : Reservation) :
    (s.setReservation h r).banks = s.banks := rfl
@[simp] theorem State.setReservation_grantOrder (s : State) (h : Holder) (r : Reservation) :
    (s.setReservation h r).grantOrder = s.grantOrder := rfl
@[simp] theorem State.setReservation_tags (s : State) (h : Holder) (r : Reservation) :
    (s.setReservation h r).tags = s.tags := rfl
@[simp] theorem State.setReservation_link (s : State) (h : Holder) (r : Reservation) :
    (s.setReservation h r).link = s.link := rfl
@[simp] theorem State.setReservation_notices (s : State) (h : Holder) (r : Reservation) :
    (s.setReservation h r).notices = s.notices := rfl
@[simp] theorem State.setReservation_mgmt (s : State) (h : Holder) (r : Reservation) :
    (s.setReservation h r).mgmt = s.mgmt := rfl
@[simp] theorem State.setReservation_wires (s : State) (h : Holder) (r : Reservation) :
    (s.setReservation h r).wires = s.wires := rfl
@[simp] theorem State.setReservation_frames (s : State) (h : Holder) (r : Reservation) :
    (s.setReservation h r).frames = s.frames := rfl
@[simp] theorem State.setReservation_linkOut (s : State) (h : Holder) (r : Reservation) :
    (s.setReservation h r).linkOut = s.linkOut := rfl
@[simp] theorem State.setReservation_delivered (s : State) (h : Holder) (r : Reservation) :
    (s.setReservation h r).delivered = s.delivered := rfl
@[simp] theorem State.setReservation_frameOut (s : State) (h : Holder) (r : Reservation) :
    (s.setReservation h r).frameOut = s.frameOut := rfl
@[simp] theorem State.setReservation_pending (s : State) (h : Holder) (r : Reservation) :
    (s.setReservation h r).pending = s.pending := rfl

/-! ## setGuard -/

@[simp] theorem State.setGuard_porAsserted (s : State) (g : GuardNo) (r : GuardRecord) :
    (s.setGuard g r).porAsserted = s.porAsserted := rfl
@[simp] theorem State.setGuard_partState (s : State) (g : GuardNo) (r : GuardRecord) :
    (s.setGuard g r).partState = s.partState := rfl
@[simp] theorem State.setGuard_config (s : State) (g : GuardNo) (r : GuardRecord) :
    (s.setGuard g r).config = s.config := rfl
@[simp] theorem State.setGuard_ports (s : State) (g : GuardNo) (r : GuardRecord) :
    (s.setGuard g r).ports = s.ports := rfl
@[simp] theorem State.setGuard_entries (s : State) (g : GuardNo) (r : GuardRecord) :
    (s.setGuard g r).entries = s.entries := rfl
@[simp] theorem State.setGuard_nextArrival (s : State) (g : GuardNo) (r : GuardRecord) :
    (s.setGuard g r).nextArrival = s.nextArrival := rfl
@[simp] theorem State.setGuard_nextAnswer (s : State) (g : GuardNo) (r : GuardRecord) :
    (s.setGuard g r).nextAnswer = s.nextAnswer := rfl
@[simp] theorem State.setGuard_reservations (s : State) (g : GuardNo) (r : GuardRecord) :
    (s.setGuard g r).reservations = s.reservations := rfl
@[simp] theorem State.setGuard_guards (s : State) (g : GuardNo) (r : GuardRecord) :
    (s.setGuard g r).guards = s.guards.set g r := rfl
@[simp] theorem State.setGuard_faults (s : State) (g : GuardNo) (r : GuardRecord) :
    (s.setGuard g r).faults = s.faults := rfl
@[simp] theorem State.setGuard_banks (s : State) (g : GuardNo) (r : GuardRecord) :
    (s.setGuard g r).banks = s.banks := rfl
@[simp] theorem State.setGuard_grantOrder (s : State) (g : GuardNo) (r : GuardRecord) :
    (s.setGuard g r).grantOrder = s.grantOrder := rfl
@[simp] theorem State.setGuard_tags (s : State) (g : GuardNo) (r : GuardRecord) :
    (s.setGuard g r).tags = s.tags := rfl
@[simp] theorem State.setGuard_link (s : State) (g : GuardNo) (r : GuardRecord) :
    (s.setGuard g r).link = s.link := rfl
@[simp] theorem State.setGuard_notices (s : State) (g : GuardNo) (r : GuardRecord) :
    (s.setGuard g r).notices = s.notices := rfl
@[simp] theorem State.setGuard_mgmt (s : State) (g : GuardNo) (r : GuardRecord) :
    (s.setGuard g r).mgmt = s.mgmt := rfl
@[simp] theorem State.setGuard_wires (s : State) (g : GuardNo) (r : GuardRecord) :
    (s.setGuard g r).wires = s.wires := rfl
@[simp] theorem State.setGuard_frames (s : State) (g : GuardNo) (r : GuardRecord) :
    (s.setGuard g r).frames = s.frames := rfl
@[simp] theorem State.setGuard_linkOut (s : State) (g : GuardNo) (r : GuardRecord) :
    (s.setGuard g r).linkOut = s.linkOut := rfl
@[simp] theorem State.setGuard_delivered (s : State) (g : GuardNo) (r : GuardRecord) :
    (s.setGuard g r).delivered = s.delivered := rfl
@[simp] theorem State.setGuard_frameOut (s : State) (g : GuardNo) (r : GuardRecord) :
    (s.setGuard g r).frameOut = s.frameOut := rfl
@[simp] theorem State.setGuard_pending (s : State) (g : GuardNo) (r : GuardRecord) :
    (s.setGuard g r).pending = s.pending := rfl

/-! ## setBank -/

@[simp] theorem State.setBank_porAsserted (s : State) (b : BankNo) (r : BankRecord) :
    (s.setBank b r).porAsserted = s.porAsserted := rfl
@[simp] theorem State.setBank_partState (s : State) (b : BankNo) (r : BankRecord) :
    (s.setBank b r).partState = s.partState := rfl
@[simp] theorem State.setBank_config (s : State) (b : BankNo) (r : BankRecord) :
    (s.setBank b r).config = s.config := rfl
@[simp] theorem State.setBank_ports (s : State) (b : BankNo) (r : BankRecord) :
    (s.setBank b r).ports = s.ports := rfl
@[simp] theorem State.setBank_entries (s : State) (b : BankNo) (r : BankRecord) :
    (s.setBank b r).entries = s.entries := rfl
@[simp] theorem State.setBank_nextArrival (s : State) (b : BankNo) (r : BankRecord) :
    (s.setBank b r).nextArrival = s.nextArrival := rfl
@[simp] theorem State.setBank_nextAnswer (s : State) (b : BankNo) (r : BankRecord) :
    (s.setBank b r).nextAnswer = s.nextAnswer := rfl
@[simp] theorem State.setBank_reservations (s : State) (b : BankNo) (r : BankRecord) :
    (s.setBank b r).reservations = s.reservations := rfl
@[simp] theorem State.setBank_guards (s : State) (b : BankNo) (r : BankRecord) :
    (s.setBank b r).guards = s.guards := rfl
@[simp] theorem State.setBank_faults (s : State) (b : BankNo) (r : BankRecord) :
    (s.setBank b r).faults = s.faults := rfl
@[simp] theorem State.setBank_banks (s : State) (b : BankNo) (r : BankRecord) :
    (s.setBank b r).banks = s.banks.set b r := rfl
@[simp] theorem State.setBank_grantOrder (s : State) (b : BankNo) (r : BankRecord) :
    (s.setBank b r).grantOrder = s.grantOrder := rfl
@[simp] theorem State.setBank_tags (s : State) (b : BankNo) (r : BankRecord) :
    (s.setBank b r).tags = s.tags := rfl
@[simp] theorem State.setBank_link (s : State) (b : BankNo) (r : BankRecord) :
    (s.setBank b r).link = s.link := rfl
@[simp] theorem State.setBank_notices (s : State) (b : BankNo) (r : BankRecord) :
    (s.setBank b r).notices = s.notices := rfl
@[simp] theorem State.setBank_mgmt (s : State) (b : BankNo) (r : BankRecord) :
    (s.setBank b r).mgmt = s.mgmt := rfl
@[simp] theorem State.setBank_wires (s : State) (b : BankNo) (r : BankRecord) :
    (s.setBank b r).wires = s.wires := rfl
@[simp] theorem State.setBank_frames (s : State) (b : BankNo) (r : BankRecord) :
    (s.setBank b r).frames = s.frames := rfl
@[simp] theorem State.setBank_linkOut (s : State) (b : BankNo) (r : BankRecord) :
    (s.setBank b r).linkOut = s.linkOut := rfl
@[simp] theorem State.setBank_delivered (s : State) (b : BankNo) (r : BankRecord) :
    (s.setBank b r).delivered = s.delivered := rfl
@[simp] theorem State.setBank_frameOut (s : State) (b : BankNo) (r : BankRecord) :
    (s.setBank b r).frameOut = s.frameOut := rfl
@[simp] theorem State.setBank_pending (s : State) (b : BankNo) (r : BankRecord) :
    (s.setBank b r).pending = s.pending := rfl

/-! ## setTag -/

@[simp] theorem State.setTag_porAsserted (s : State) (t : Tag) (r : TagRecord) :
    (s.setTag t r).porAsserted = s.porAsserted := rfl
@[simp] theorem State.setTag_partState (s : State) (t : Tag) (r : TagRecord) :
    (s.setTag t r).partState = s.partState := rfl
@[simp] theorem State.setTag_config (s : State) (t : Tag) (r : TagRecord) :
    (s.setTag t r).config = s.config := rfl
@[simp] theorem State.setTag_ports (s : State) (t : Tag) (r : TagRecord) :
    (s.setTag t r).ports = s.ports := rfl
@[simp] theorem State.setTag_entries (s : State) (t : Tag) (r : TagRecord) :
    (s.setTag t r).entries = s.entries := rfl
@[simp] theorem State.setTag_nextArrival (s : State) (t : Tag) (r : TagRecord) :
    (s.setTag t r).nextArrival = s.nextArrival := rfl
@[simp] theorem State.setTag_nextAnswer (s : State) (t : Tag) (r : TagRecord) :
    (s.setTag t r).nextAnswer = s.nextAnswer := rfl
@[simp] theorem State.setTag_reservations (s : State) (t : Tag) (r : TagRecord) :
    (s.setTag t r).reservations = s.reservations := rfl
@[simp] theorem State.setTag_guards (s : State) (t : Tag) (r : TagRecord) :
    (s.setTag t r).guards = s.guards := rfl
@[simp] theorem State.setTag_faults (s : State) (t : Tag) (r : TagRecord) :
    (s.setTag t r).faults = s.faults := rfl
@[simp] theorem State.setTag_banks (s : State) (t : Tag) (r : TagRecord) :
    (s.setTag t r).banks = s.banks := rfl
@[simp] theorem State.setTag_grantOrder (s : State) (t : Tag) (r : TagRecord) :
    (s.setTag t r).grantOrder = s.grantOrder := rfl
@[simp] theorem State.setTag_tags (s : State) (t : Tag) (r : TagRecord) :
    (s.setTag t r).tags = s.tags.set t r := rfl
@[simp] theorem State.setTag_link (s : State) (t : Tag) (r : TagRecord) :
    (s.setTag t r).link = s.link := rfl
@[simp] theorem State.setTag_notices (s : State) (t : Tag) (r : TagRecord) :
    (s.setTag t r).notices = s.notices := rfl
@[simp] theorem State.setTag_mgmt (s : State) (t : Tag) (r : TagRecord) :
    (s.setTag t r).mgmt = s.mgmt := rfl
@[simp] theorem State.setTag_wires (s : State) (t : Tag) (r : TagRecord) :
    (s.setTag t r).wires = s.wires := rfl
@[simp] theorem State.setTag_frames (s : State) (t : Tag) (r : TagRecord) :
    (s.setTag t r).frames = s.frames := rfl
@[simp] theorem State.setTag_linkOut (s : State) (t : Tag) (r : TagRecord) :
    (s.setTag t r).linkOut = s.linkOut := rfl
@[simp] theorem State.setTag_delivered (s : State) (t : Tag) (r : TagRecord) :
    (s.setTag t r).delivered = s.delivered := rfl
@[simp] theorem State.setTag_frameOut (s : State) (t : Tag) (r : TagRecord) :
    (s.setTag t r).frameOut = s.frameOut := rfl
@[simp] theorem State.setTag_pending (s : State) (t : Tag) (r : TagRecord) :
    (s.setTag t r).pending = s.pending := rfl

/-! ## send -/

@[simp] theorem State.send_porAsserted (s : State) (m : LinkMessage) :
    (s.send m).porAsserted = s.porAsserted := rfl
@[simp] theorem State.send_partState (s : State) (m : LinkMessage) :
    (s.send m).partState = s.partState := rfl
@[simp] theorem State.send_config (s : State) (m : LinkMessage) :
    (s.send m).config = s.config := rfl
@[simp] theorem State.send_ports (s : State) (m : LinkMessage) :
    (s.send m).ports = s.ports := rfl
@[simp] theorem State.send_entries (s : State) (m : LinkMessage) :
    (s.send m).entries = s.entries := rfl
@[simp] theorem State.send_nextArrival (s : State) (m : LinkMessage) :
    (s.send m).nextArrival = s.nextArrival := rfl
@[simp] theorem State.send_nextAnswer (s : State) (m : LinkMessage) :
    (s.send m).nextAnswer = s.nextAnswer := rfl
@[simp] theorem State.send_reservations (s : State) (m : LinkMessage) :
    (s.send m).reservations = s.reservations := rfl
@[simp] theorem State.send_guards (s : State) (m : LinkMessage) :
    (s.send m).guards = s.guards := rfl
@[simp] theorem State.send_faults (s : State) (m : LinkMessage) :
    (s.send m).faults = s.faults := rfl
@[simp] theorem State.send_banks (s : State) (m : LinkMessage) :
    (s.send m).banks = s.banks := rfl
@[simp] theorem State.send_grantOrder (s : State) (m : LinkMessage) :
    (s.send m).grantOrder = s.grantOrder := rfl
@[simp] theorem State.send_tags (s : State) (m : LinkMessage) :
    (s.send m).tags = s.tags := rfl
@[simp] theorem State.send_link (s : State) (m : LinkMessage) :
    (s.send m).link = s.link := rfl
@[simp] theorem State.send_notices (s : State) (m : LinkMessage) :
    (s.send m).notices = s.notices := rfl
@[simp] theorem State.send_mgmt (s : State) (m : LinkMessage) :
    (s.send m).mgmt = s.mgmt := rfl
@[simp] theorem State.send_wires (s : State) (m : LinkMessage) :
    (s.send m).wires = s.wires := rfl
@[simp] theorem State.send_frames (s : State) (m : LinkMessage) :
    (s.send m).frames = s.frames := rfl
@[simp] theorem State.send_linkOut (s : State) (m : LinkMessage) :
    (s.send m).linkOut = s.linkOut ++ [m] := rfl
@[simp] theorem State.send_delivered (s : State) (m : LinkMessage) :
    (s.send m).delivered = s.delivered := rfl
@[simp] theorem State.send_frameOut (s : State) (m : LinkMessage) :
    (s.send m).frameOut = s.frameOut := rfl
@[simp] theorem State.send_pending (s : State) (m : LinkMessage) :
    (s.send m).pending = s.pending := rfl

/-! ## post -/

@[simp] theorem State.post_porAsserted (s : State) (k : NoticeKind) (p : Option Port) (d : Detail) :
    (s.post k p d).porAsserted = s.porAsserted := rfl
@[simp] theorem State.post_partState (s : State) (k : NoticeKind) (p : Option Port) (d : Detail) :
    (s.post k p d).partState = s.partState := rfl
@[simp] theorem State.post_config (s : State) (k : NoticeKind) (p : Option Port) (d : Detail) :
    (s.post k p d).config = s.config := rfl
@[simp] theorem State.post_ports (s : State) (k : NoticeKind) (p : Option Port) (d : Detail) :
    (s.post k p d).ports = s.ports := rfl
@[simp] theorem State.post_entries (s : State) (k : NoticeKind) (p : Option Port) (d : Detail) :
    (s.post k p d).entries = s.entries := rfl
@[simp] theorem State.post_nextArrival (s : State) (k : NoticeKind) (p : Option Port) (d : Detail) :
    (s.post k p d).nextArrival = s.nextArrival := rfl
@[simp] theorem State.post_nextAnswer (s : State) (k : NoticeKind) (p : Option Port) (d : Detail) :
    (s.post k p d).nextAnswer = s.nextAnswer := rfl
@[simp] theorem State.post_reservations (s : State) (k : NoticeKind) (p : Option Port) (d : Detail) :
    (s.post k p d).reservations = s.reservations := rfl
@[simp] theorem State.post_guards (s : State) (k : NoticeKind) (p : Option Port) (d : Detail) :
    (s.post k p d).guards = s.guards := rfl
@[simp] theorem State.post_faults (s : State) (k : NoticeKind) (p : Option Port) (d : Detail) :
    (s.post k p d).faults = s.faults := rfl
@[simp] theorem State.post_banks (s : State) (k : NoticeKind) (p : Option Port) (d : Detail) :
    (s.post k p d).banks = s.banks := rfl
@[simp] theorem State.post_grantOrder (s : State) (k : NoticeKind) (p : Option Port) (d : Detail) :
    (s.post k p d).grantOrder = s.grantOrder := rfl
@[simp] theorem State.post_tags (s : State) (k : NoticeKind) (p : Option Port) (d : Detail) :
    (s.post k p d).tags = s.tags := rfl
@[simp] theorem State.post_link (s : State) (k : NoticeKind) (p : Option Port) (d : Detail) :
    (s.post k p d).link = s.link := rfl
@[simp] theorem State.post_notices (s : State) (k : NoticeKind) (p : Option Port) (d : Detail) :
    (s.post k p d).notices = s.notices.post k p d := rfl
@[simp] theorem State.post_mgmt (s : State) (k : NoticeKind) (p : Option Port) (d : Detail) :
    (s.post k p d).mgmt = s.mgmt := rfl
@[simp] theorem State.post_wires (s : State) (k : NoticeKind) (p : Option Port) (d : Detail) :
    (s.post k p d).wires = s.wires := rfl
@[simp] theorem State.post_frames (s : State) (k : NoticeKind) (p : Option Port) (d : Detail) :
    (s.post k p d).frames = s.frames := rfl
@[simp] theorem State.post_linkOut (s : State) (k : NoticeKind) (p : Option Port) (d : Detail) :
    (s.post k p d).linkOut = s.linkOut := rfl
@[simp] theorem State.post_delivered (s : State) (k : NoticeKind) (p : Option Port) (d : Detail) :
    (s.post k p d).delivered = s.delivered := rfl
@[simp] theorem State.post_frameOut (s : State) (k : NoticeKind) (p : Option Port) (d : Detail) :
    (s.post k p d).frameOut = s.frameOut := rfl
@[simp] theorem State.post_pending (s : State) (k : NoticeKind) (p : Option Port) (d : Detail) :
    (s.post k p d).pending = s.pending := rfl

/-! ## breakForFault -/

@[simp] theorem State.breakForFault_porAsserted (s : State) (l : Line) :
    (s.breakForFault l).porAsserted = s.porAsserted := rfl
@[simp] theorem State.breakForFault_partState (s : State) (l : Line) :
    (s.breakForFault l).partState = s.partState := rfl
@[simp] theorem State.breakForFault_config (s : State) (l : Line) :
    (s.breakForFault l).config = s.config := rfl
@[simp] theorem State.breakForFault_ports (s : State) (l : Line) :
    (s.breakForFault l).ports = s.ports := rfl
@[simp] theorem State.breakForFault_entries (s : State) (l : Line) :
    (s.breakForFault l).entries = s.entries := rfl
@[simp] theorem State.breakForFault_nextArrival (s : State) (l : Line) :
    (s.breakForFault l).nextArrival = s.nextArrival := rfl
@[simp] theorem State.breakForFault_nextAnswer (s : State) (l : Line) :
    (s.breakForFault l).nextAnswer = s.nextAnswer := rfl
@[simp] theorem State.breakForFault_reservations (s : State) (l : Line) :
    (s.breakForFault l).reservations = s.reservations.mapIdx (fun _ r => r.break l .fault) := rfl
@[simp] theorem State.breakForFault_guards (s : State) (l : Line) :
    (s.breakForFault l).guards = s.guards := rfl
@[simp] theorem State.breakForFault_faults (s : State) (l : Line) :
    (s.breakForFault l).faults = s.faults := rfl
@[simp] theorem State.breakForFault_banks (s : State) (l : Line) :
    (s.breakForFault l).banks = s.banks := rfl
@[simp] theorem State.breakForFault_grantOrder (s : State) (l : Line) :
    (s.breakForFault l).grantOrder = s.grantOrder := rfl
@[simp] theorem State.breakForFault_tags (s : State) (l : Line) :
    (s.breakForFault l).tags = s.tags := rfl
@[simp] theorem State.breakForFault_link (s : State) (l : Line) :
    (s.breakForFault l).link = s.link := rfl
@[simp] theorem State.breakForFault_notices (s : State) (l : Line) :
    (s.breakForFault l).notices = s.notices := rfl
@[simp] theorem State.breakForFault_mgmt (s : State) (l : Line) :
    (s.breakForFault l).mgmt = s.mgmt := rfl
@[simp] theorem State.breakForFault_wires (s : State) (l : Line) :
    (s.breakForFault l).wires = s.wires := rfl
@[simp] theorem State.breakForFault_frames (s : State) (l : Line) :
    (s.breakForFault l).frames = s.frames := rfl
@[simp] theorem State.breakForFault_linkOut (s : State) (l : Line) :
    (s.breakForFault l).linkOut = s.linkOut := rfl
@[simp] theorem State.breakForFault_delivered (s : State) (l : Line) :
    (s.breakForFault l).delivered = s.delivered := rfl
@[simp] theorem State.breakForFault_frameOut (s : State) (l : Line) :
    (s.breakForFault l).frameOut = s.frameOut := rfl
@[simp] theorem State.breakForFault_pending (s : State) (l : Line) :
    (s.breakForFault l).pending = s.pending := rfl

/-! ## breakForConflict -/

@[simp] theorem State.breakForConflict_porAsserted (s : State) (h : Holder) (l : Line) :
    (s.breakForConflict h l).porAsserted = s.porAsserted := rfl
@[simp] theorem State.breakForConflict_partState (s : State) (h : Holder) (l : Line) :
    (s.breakForConflict h l).partState = s.partState := rfl
@[simp] theorem State.breakForConflict_config (s : State) (h : Holder) (l : Line) :
    (s.breakForConflict h l).config = s.config := rfl
@[simp] theorem State.breakForConflict_ports (s : State) (h : Holder) (l : Line) :
    (s.breakForConflict h l).ports = s.ports := rfl
@[simp] theorem State.breakForConflict_entries (s : State) (h : Holder) (l : Line) :
    (s.breakForConflict h l).entries = s.entries := rfl
@[simp] theorem State.breakForConflict_nextArrival (s : State) (h : Holder) (l : Line) :
    (s.breakForConflict h l).nextArrival = s.nextArrival := rfl
@[simp] theorem State.breakForConflict_nextAnswer (s : State) (h : Holder) (l : Line) :
    (s.breakForConflict h l).nextAnswer = s.nextAnswer := rfl
@[simp] theorem State.breakForConflict_reservations (s : State) (h : Holder) (l : Line) :
    (s.breakForConflict h l).reservations = s.reservations.mapIdx (fun i r => if i = h.val then r else r.break l .conflict) := rfl
@[simp] theorem State.breakForConflict_guards (s : State) (h : Holder) (l : Line) :
    (s.breakForConflict h l).guards = s.guards := rfl
@[simp] theorem State.breakForConflict_faults (s : State) (h : Holder) (l : Line) :
    (s.breakForConflict h l).faults = s.faults := rfl
@[simp] theorem State.breakForConflict_banks (s : State) (h : Holder) (l : Line) :
    (s.breakForConflict h l).banks = s.banks := rfl
@[simp] theorem State.breakForConflict_grantOrder (s : State) (h : Holder) (l : Line) :
    (s.breakForConflict h l).grantOrder = s.grantOrder := rfl
@[simp] theorem State.breakForConflict_tags (s : State) (h : Holder) (l : Line) :
    (s.breakForConflict h l).tags = s.tags := rfl
@[simp] theorem State.breakForConflict_link (s : State) (h : Holder) (l : Line) :
    (s.breakForConflict h l).link = s.link := rfl
@[simp] theorem State.breakForConflict_notices (s : State) (h : Holder) (l : Line) :
    (s.breakForConflict h l).notices = s.notices := rfl
@[simp] theorem State.breakForConflict_mgmt (s : State) (h : Holder) (l : Line) :
    (s.breakForConflict h l).mgmt = s.mgmt := rfl
@[simp] theorem State.breakForConflict_wires (s : State) (h : Holder) (l : Line) :
    (s.breakForConflict h l).wires = s.wires := rfl
@[simp] theorem State.breakForConflict_frames (s : State) (h : Holder) (l : Line) :
    (s.breakForConflict h l).frames = s.frames := rfl
@[simp] theorem State.breakForConflict_linkOut (s : State) (h : Holder) (l : Line) :
    (s.breakForConflict h l).linkOut = s.linkOut := rfl
@[simp] theorem State.breakForConflict_delivered (s : State) (h : Holder) (l : Line) :
    (s.breakForConflict h l).delivered = s.delivered := rfl
@[simp] theorem State.breakForConflict_frameOut (s : State) (h : Holder) (l : Line) :
    (s.breakForConflict h l).frameOut = s.frameOut := rfl
@[simp] theorem State.breakForConflict_pending (s : State) (h : Holder) (l : Line) :
    (s.breakForConflict h l).pending = s.pending := rfl

/-! ## reserve -/

@[simp] theorem State.reserve_porAsserted (s : State) (h : Holder) (l : Line) :
    (s.reserve h l).porAsserted = s.porAsserted := rfl
@[simp] theorem State.reserve_partState (s : State) (h : Holder) (l : Line) :
    (s.reserve h l).partState = s.partState := rfl
@[simp] theorem State.reserve_config (s : State) (h : Holder) (l : Line) :
    (s.reserve h l).config = s.config := rfl
@[simp] theorem State.reserve_ports (s : State) (h : Holder) (l : Line) :
    (s.reserve h l).ports = s.ports := rfl
@[simp] theorem State.reserve_entries (s : State) (h : Holder) (l : Line) :
    (s.reserve h l).entries = s.entries := rfl
@[simp] theorem State.reserve_nextArrival (s : State) (h : Holder) (l : Line) :
    (s.reserve h l).nextArrival = s.nextArrival := rfl
@[simp] theorem State.reserve_nextAnswer (s : State) (h : Holder) (l : Line) :
    (s.reserve h l).nextAnswer = s.nextAnswer := rfl
@[simp] theorem State.reserve_guards (s : State) (h : Holder) (l : Line) :
    (s.reserve h l).guards = s.guards := rfl
@[simp] theorem State.reserve_faults (s : State) (h : Holder) (l : Line) :
    (s.reserve h l).faults = s.faults := rfl
@[simp] theorem State.reserve_banks (s : State) (h : Holder) (l : Line) :
    (s.reserve h l).banks = s.banks := rfl
@[simp] theorem State.reserve_grantOrder (s : State) (h : Holder) (l : Line) :
    (s.reserve h l).grantOrder = s.grantOrder := rfl
@[simp] theorem State.reserve_tags (s : State) (h : Holder) (l : Line) :
    (s.reserve h l).tags = s.tags := rfl
@[simp] theorem State.reserve_link (s : State) (h : Holder) (l : Line) :
    (s.reserve h l).link = s.link := rfl
@[simp] theorem State.reserve_notices (s : State) (h : Holder) (l : Line) :
    (s.reserve h l).notices = s.notices := rfl
@[simp] theorem State.reserve_mgmt (s : State) (h : Holder) (l : Line) :
    (s.reserve h l).mgmt = s.mgmt := rfl
@[simp] theorem State.reserve_wires (s : State) (h : Holder) (l : Line) :
    (s.reserve h l).wires = s.wires := rfl
@[simp] theorem State.reserve_frames (s : State) (h : Holder) (l : Line) :
    (s.reserve h l).frames = s.frames := rfl
@[simp] theorem State.reserve_linkOut (s : State) (h : Holder) (l : Line) :
    (s.reserve h l).linkOut = s.linkOut := rfl
@[simp] theorem State.reserve_delivered (s : State) (h : Holder) (l : Line) :
    (s.reserve h l).delivered = s.delivered := rfl
@[simp] theorem State.reserve_frameOut (s : State) (h : Holder) (l : Line) :
    (s.reserve h l).frameOut = s.frameOut := rfl
@[simp] theorem State.reserve_pending (s : State) (h : Holder) (l : Line) :
    (s.reserve h l).pending = s.pending := rfl

/-! ## breakReadFailed -/

@[simp] theorem State.breakReadFailed_porAsserted (s : State) (h : Holder) (l : Line) :
    (s.breakReadFailed h l).porAsserted = s.porAsserted := rfl
@[simp] theorem State.breakReadFailed_partState (s : State) (h : Holder) (l : Line) :
    (s.breakReadFailed h l).partState = s.partState := rfl
@[simp] theorem State.breakReadFailed_config (s : State) (h : Holder) (l : Line) :
    (s.breakReadFailed h l).config = s.config := rfl
@[simp] theorem State.breakReadFailed_ports (s : State) (h : Holder) (l : Line) :
    (s.breakReadFailed h l).ports = s.ports := rfl
@[simp] theorem State.breakReadFailed_entries (s : State) (h : Holder) (l : Line) :
    (s.breakReadFailed h l).entries = s.entries := rfl
@[simp] theorem State.breakReadFailed_nextArrival (s : State) (h : Holder) (l : Line) :
    (s.breakReadFailed h l).nextArrival = s.nextArrival := rfl
@[simp] theorem State.breakReadFailed_nextAnswer (s : State) (h : Holder) (l : Line) :
    (s.breakReadFailed h l).nextAnswer = s.nextAnswer := rfl
@[simp] theorem State.breakReadFailed_guards (s : State) (h : Holder) (l : Line) :
    (s.breakReadFailed h l).guards = s.guards := rfl
@[simp] theorem State.breakReadFailed_faults (s : State) (h : Holder) (l : Line) :
    (s.breakReadFailed h l).faults = s.faults := rfl
@[simp] theorem State.breakReadFailed_banks (s : State) (h : Holder) (l : Line) :
    (s.breakReadFailed h l).banks = s.banks := rfl
@[simp] theorem State.breakReadFailed_grantOrder (s : State) (h : Holder) (l : Line) :
    (s.breakReadFailed h l).grantOrder = s.grantOrder := rfl
@[simp] theorem State.breakReadFailed_tags (s : State) (h : Holder) (l : Line) :
    (s.breakReadFailed h l).tags = s.tags := rfl
@[simp] theorem State.breakReadFailed_link (s : State) (h : Holder) (l : Line) :
    (s.breakReadFailed h l).link = s.link := rfl
@[simp] theorem State.breakReadFailed_notices (s : State) (h : Holder) (l : Line) :
    (s.breakReadFailed h l).notices = s.notices := rfl
@[simp] theorem State.breakReadFailed_mgmt (s : State) (h : Holder) (l : Line) :
    (s.breakReadFailed h l).mgmt = s.mgmt := rfl
@[simp] theorem State.breakReadFailed_wires (s : State) (h : Holder) (l : Line) :
    (s.breakReadFailed h l).wires = s.wires := rfl
@[simp] theorem State.breakReadFailed_frames (s : State) (h : Holder) (l : Line) :
    (s.breakReadFailed h l).frames = s.frames := rfl
@[simp] theorem State.breakReadFailed_linkOut (s : State) (h : Holder) (l : Line) :
    (s.breakReadFailed h l).linkOut = s.linkOut := rfl
@[simp] theorem State.breakReadFailed_delivered (s : State) (h : Holder) (l : Line) :
    (s.breakReadFailed h l).delivered = s.delivered := rfl
@[simp] theorem State.breakReadFailed_frameOut (s : State) (h : Holder) (l : Line) :
    (s.breakReadFailed h l).frameOut = s.frameOut := rfl
@[simp] theorem State.breakReadFailed_pending (s : State) (h : Holder) (l : Line) :
    (s.breakReadFailed h l).pending = s.pending := rfl

/-! ## clearHolders -/

@[simp] theorem State.clearHolders_porAsserted (s : State) (p : Port) :
    (s.clearHolders p).porAsserted = s.porAsserted := rfl
@[simp] theorem State.clearHolders_partState (s : State) (p : Port) :
    (s.clearHolders p).partState = s.partState := rfl
@[simp] theorem State.clearHolders_config (s : State) (p : Port) :
    (s.clearHolders p).config = s.config := rfl
@[simp] theorem State.clearHolders_ports (s : State) (p : Port) :
    (s.clearHolders p).ports = s.ports := rfl
@[simp] theorem State.clearHolders_entries (s : State) (p : Port) :
    (s.clearHolders p).entries = s.entries := rfl
@[simp] theorem State.clearHolders_nextArrival (s : State) (p : Port) :
    (s.clearHolders p).nextArrival = s.nextArrival := rfl
@[simp] theorem State.clearHolders_nextAnswer (s : State) (p : Port) :
    (s.clearHolders p).nextAnswer = s.nextAnswer := rfl
@[simp] theorem State.clearHolders_guards (s : State) (p : Port) :
    (s.clearHolders p).guards = s.guards := rfl
@[simp] theorem State.clearHolders_faults (s : State) (p : Port) :
    (s.clearHolders p).faults = s.faults := rfl
@[simp] theorem State.clearHolders_banks (s : State) (p : Port) :
    (s.clearHolders p).banks = s.banks := rfl
@[simp] theorem State.clearHolders_grantOrder (s : State) (p : Port) :
    (s.clearHolders p).grantOrder = s.grantOrder := rfl
@[simp] theorem State.clearHolders_tags (s : State) (p : Port) :
    (s.clearHolders p).tags = s.tags := rfl
@[simp] theorem State.clearHolders_link (s : State) (p : Port) :
    (s.clearHolders p).link = s.link := rfl
@[simp] theorem State.clearHolders_notices (s : State) (p : Port) :
    (s.clearHolders p).notices = s.notices := rfl
@[simp] theorem State.clearHolders_mgmt (s : State) (p : Port) :
    (s.clearHolders p).mgmt = s.mgmt := rfl
@[simp] theorem State.clearHolders_wires (s : State) (p : Port) :
    (s.clearHolders p).wires = s.wires := rfl
@[simp] theorem State.clearHolders_frames (s : State) (p : Port) :
    (s.clearHolders p).frames = s.frames := rfl
@[simp] theorem State.clearHolders_linkOut (s : State) (p : Port) :
    (s.clearHolders p).linkOut = s.linkOut := rfl
@[simp] theorem State.clearHolders_delivered (s : State) (p : Port) :
    (s.clearHolders p).delivered = s.delivered := rfl
@[simp] theorem State.clearHolders_frameOut (s : State) (p : Port) :
    (s.clearHolders p).frameOut = s.frameOut := rfl
@[simp] theorem State.clearHolders_pending (s : State) (p : Port) :
    (s.clearHolders p).pending = s.pending := rfl

/-! ## clearLine -/

@[simp] theorem State.clearLine_porAsserted (s : State) (l : Line) :
    (s.clearLine l).porAsserted = s.porAsserted := rfl
@[simp] theorem State.clearLine_partState (s : State) (l : Line) :
    (s.clearLine l).partState = s.partState := rfl
@[simp] theorem State.clearLine_config (s : State) (l : Line) :
    (s.clearLine l).config = s.config := rfl
@[simp] theorem State.clearLine_ports (s : State) (l : Line) :
    (s.clearLine l).ports = s.ports := rfl
@[simp] theorem State.clearLine_entries (s : State) (l : Line) :
    (s.clearLine l).entries = s.entries := rfl
@[simp] theorem State.clearLine_nextArrival (s : State) (l : Line) :
    (s.clearLine l).nextArrival = s.nextArrival := rfl
@[simp] theorem State.clearLine_nextAnswer (s : State) (l : Line) :
    (s.clearLine l).nextAnswer = s.nextAnswer := rfl
@[simp] theorem State.clearLine_reservations (s : State) (l : Line) :
    (s.clearLine l).reservations = s.reservations := rfl
@[simp] theorem State.clearLine_guards (s : State) (l : Line) :
    (s.clearLine l).guards = s.guards := rfl
@[simp] theorem State.clearLine_faults (s : State) (l : Line) :
    (s.clearLine l).faults = s.faults.filter (fun f => f.line != l) := rfl
@[simp] theorem State.clearLine_banks (s : State) (l : Line) :
    (s.clearLine l).banks = s.banks := rfl
@[simp] theorem State.clearLine_grantOrder (s : State) (l : Line) :
    (s.clearLine l).grantOrder = s.grantOrder := rfl
@[simp] theorem State.clearLine_tags (s : State) (l : Line) :
    (s.clearLine l).tags = s.tags := rfl
@[simp] theorem State.clearLine_link (s : State) (l : Line) :
    (s.clearLine l).link = s.link := rfl
@[simp] theorem State.clearLine_notices (s : State) (l : Line) :
    (s.clearLine l).notices = s.notices := rfl
@[simp] theorem State.clearLine_mgmt (s : State) (l : Line) :
    (s.clearLine l).mgmt = s.mgmt := rfl
@[simp] theorem State.clearLine_wires (s : State) (l : Line) :
    (s.clearLine l).wires = s.wires := rfl
@[simp] theorem State.clearLine_frames (s : State) (l : Line) :
    (s.clearLine l).frames = s.frames := rfl
@[simp] theorem State.clearLine_linkOut (s : State) (l : Line) :
    (s.clearLine l).linkOut = s.linkOut := rfl
@[simp] theorem State.clearLine_delivered (s : State) (l : Line) :
    (s.clearLine l).delivered = s.delivered := rfl
@[simp] theorem State.clearLine_frameOut (s : State) (l : Line) :
    (s.clearLine l).frameOut = s.frameOut := rfl
@[simp] theorem State.clearLine_pending (s : State) (l : Line) :
    (s.clearLine l).pending = s.pending := rfl

/-! ## endBank -/

@[simp] theorem State.endBank_porAsserted (s : State) (l : Line) :
    (s.endBank l).porAsserted = s.porAsserted := rfl
@[simp] theorem State.endBank_partState (s : State) (l : Line) :
    (s.endBank l).partState = s.partState := rfl
@[simp] theorem State.endBank_config (s : State) (l : Line) :
    (s.endBank l).config = s.config := rfl
@[simp] theorem State.endBank_ports (s : State) (l : Line) :
    (s.endBank l).ports = s.ports := rfl
@[simp] theorem State.endBank_entries (s : State) (l : Line) :
    (s.endBank l).entries = s.entries := rfl
@[simp] theorem State.endBank_nextArrival (s : State) (l : Line) :
    (s.endBank l).nextArrival = s.nextArrival := rfl
@[simp] theorem State.endBank_nextAnswer (s : State) (l : Line) :
    (s.endBank l).nextAnswer = s.nextAnswer := rfl
@[simp] theorem State.endBank_reservations (s : State) (l : Line) :
    (s.endBank l).reservations = s.reservations := rfl
@[simp] theorem State.endBank_guards (s : State) (l : Line) :
    (s.endBank l).guards = s.guards := rfl
@[simp] theorem State.endBank_faults (s : State) (l : Line) :
    (s.endBank l).faults = s.faults := rfl
@[simp] theorem State.endBank_banks (s : State) (l : Line) :
    (s.endBank l).banks = s.banks.set (bankOf s.config l) (recoveredBank s.config) := rfl
@[simp] theorem State.endBank_grantOrder (s : State) (l : Line) :
    (s.endBank l).grantOrder = s.grantOrder := rfl
@[simp] theorem State.endBank_tags (s : State) (l : Line) :
    (s.endBank l).tags = s.tags := rfl
@[simp] theorem State.endBank_link (s : State) (l : Line) :
    (s.endBank l).link = s.link := rfl
@[simp] theorem State.endBank_notices (s : State) (l : Line) :
    (s.endBank l).notices = s.notices := rfl
@[simp] theorem State.endBank_mgmt (s : State) (l : Line) :
    (s.endBank l).mgmt = s.mgmt := rfl
@[simp] theorem State.endBank_wires (s : State) (l : Line) :
    (s.endBank l).wires = s.wires := rfl
@[simp] theorem State.endBank_frames (s : State) (l : Line) :
    (s.endBank l).frames = s.frames := rfl
@[simp] theorem State.endBank_linkOut (s : State) (l : Line) :
    (s.endBank l).linkOut = s.linkOut := rfl
@[simp] theorem State.endBank_delivered (s : State) (l : Line) :
    (s.endBank l).delivered = s.delivered := rfl
@[simp] theorem State.endBank_frameOut (s : State) (l : Line) :
    (s.endBank l).frameOut = s.frameOut := rfl
@[simp] theorem State.endBank_pending (s : State) (l : Line) :
    (s.endBank l).pending = s.pending := rfl

/-! ## placeResponse -/

@[simp] theorem State.placeResponse_porAsserted (s : State) (p : Port) (r : Response) :
    (s.placeResponse p r).porAsserted = s.porAsserted := rfl
@[simp] theorem State.placeResponse_partState (s : State) (p : Port) (r : Response) :
    (s.placeResponse p r).partState = s.partState := rfl
@[simp] theorem State.placeResponse_config (s : State) (p : Port) (r : Response) :
    (s.placeResponse p r).config = s.config := rfl
@[simp] theorem State.placeResponse_entries (s : State) (p : Port) (r : Response) :
    (s.placeResponse p r).entries = s.entries := rfl
@[simp] theorem State.placeResponse_nextArrival (s : State) (p : Port) (r : Response) :
    (s.placeResponse p r).nextArrival = s.nextArrival := rfl
@[simp] theorem State.placeResponse_nextAnswer (s : State) (p : Port) (r : Response) :
    (s.placeResponse p r).nextAnswer = s.nextAnswer := rfl
@[simp] theorem State.placeResponse_reservations (s : State) (p : Port) (r : Response) :
    (s.placeResponse p r).reservations = s.reservations := rfl
@[simp] theorem State.placeResponse_guards (s : State) (p : Port) (r : Response) :
    (s.placeResponse p r).guards = s.guards := rfl
@[simp] theorem State.placeResponse_faults (s : State) (p : Port) (r : Response) :
    (s.placeResponse p r).faults = s.faults := rfl
@[simp] theorem State.placeResponse_banks (s : State) (p : Port) (r : Response) :
    (s.placeResponse p r).banks = s.banks := rfl
@[simp] theorem State.placeResponse_grantOrder (s : State) (p : Port) (r : Response) :
    (s.placeResponse p r).grantOrder = s.grantOrder := rfl
@[simp] theorem State.placeResponse_tags (s : State) (p : Port) (r : Response) :
    (s.placeResponse p r).tags = s.tags := rfl
@[simp] theorem State.placeResponse_link (s : State) (p : Port) (r : Response) :
    (s.placeResponse p r).link = s.link := rfl
@[simp] theorem State.placeResponse_notices (s : State) (p : Port) (r : Response) :
    (s.placeResponse p r).notices = s.notices := rfl
@[simp] theorem State.placeResponse_mgmt (s : State) (p : Port) (r : Response) :
    (s.placeResponse p r).mgmt = s.mgmt := rfl
@[simp] theorem State.placeResponse_wires (s : State) (p : Port) (r : Response) :
    (s.placeResponse p r).wires = s.wires := rfl
@[simp] theorem State.placeResponse_frames (s : State) (p : Port) (r : Response) :
    (s.placeResponse p r).frames = s.frames := rfl
@[simp] theorem State.placeResponse_linkOut (s : State) (p : Port) (r : Response) :
    (s.placeResponse p r).linkOut = s.linkOut := rfl
@[simp] theorem State.placeResponse_delivered (s : State) (p : Port) (r : Response) :
    (s.placeResponse p r).delivered = s.delivered := rfl
@[simp] theorem State.placeResponse_frameOut (s : State) (p : Port) (r : Response) :
    (s.placeResponse p r).frameOut = s.frameOut := rfl
@[simp] theorem State.placeResponse_pending (s : State) (p : Port) (r : Response) :
    (s.placeResponse p r).pending = s.pending := rfl

/-! ## A record after its update -/

theorem State.setPort_get (s : State) (p q : Port) (r : PortRecord) :
    (s.setPort p r).ports[q] = if p = q then r else s.ports[q] := by
  simp [State.setPort, Vector.getElem_set, Fin.ext_iff]

theorem State.setReservation_get (s : State) (h k : Holder) (r : Reservation) :
    (s.setReservation h r).reservations[k] = if h = k then r else s.reservations[k] := by
  simp [State.setReservation, Vector.getElem_set, Fin.ext_iff]

theorem State.setGuard_get (s : State) (g k : GuardNo) (r : GuardRecord) :
    (s.setGuard g r).guards[k] = if g = k then r else s.guards[k] := by
  simp [State.setGuard, Vector.getElem_set, Fin.ext_iff]

theorem State.setBank_get (s : State) (b k : BankNo) (r : BankRecord) :
    (s.setBank b r).banks[k] = if b = k then r else s.banks[k] := by
  simp [State.setBank, Vector.getElem_set, Fin.ext_iff]

theorem State.setTag_get (s : State) (t k : Tag) (r : TagRecord) :
    (s.setTag t r).tags[k] = if t = k then r else s.tags[k] := by
  simp [State.setTag, Vector.getElem_set, Fin.ext_iff]

/-- A response placed at port p leaves every port's state, and every other port's queue. -/
theorem State.placeResponse_get (s : State) (p q : Port) (r : Response) :
    (s.placeResponse p r).ports[q] =
      if p = q then { s.ports[p] with responses := s.ports[p].responses ++ [r] } else s.ports[q] := by
  simp only [State.placeResponse, State.setPort_get]

@[simp] theorem State.placeResponse_portState (s : State) (p q : Port) (r : Response) :
    (s.placeResponse p r).ports[q].state = s.ports[q].state := by
  rw [State.placeResponse_get]; split <;> simp_all

end Sys2Proof.Machine
end

