-- ==== Sys2Proof/Laws/Records.lean ====
section
/-! SUPPORT. What each operation over one record does, once each: posts, breaks of reservations, the recording of
faults, escalation, the report of emptiness and the end of fencing. -/

namespace Sys2Proof.Machine

open Sys2Proof

/-! ## Posts (R174) -/

theorem NoticeQueue.post_masked (q : NoticeQueue) (k : NoticeKind) (p : Option Port) (d : Detail)
    (h : q.masked k = true) : q.post k p d = q := by
  simp [NoticeQueue.post, h]

theorem NoticeQueue.post_coalesces (q : NoticeQueue) (k : NoticeKind) (p : Option Port) (d : Detail)
    (hm : q.masked k = false) (h : q.entries.any (fun n => n.isOf k p) = true) :
    q.post k p d = { q with entries := q.entries.map (fun n => if n.isOf k p then n.raised else n) } := by
  unfold NoticeQueue.post; rw [hm, h]; rfl

theorem NoticeQueue.post_new (q : NoticeQueue) (k : NoticeKind) (p : Option Port) (d : Detail)
    (hm : q.masked k = false) (h : q.entries.any (fun n => n.isOf k p) = false)
    (hl : q.entries.length < Config.noticeCapacity) :
    q.post k p d = { q with entries := q.entries ++ [⟨k, p, 1, d⟩] } := by
  unfold NoticeQueue.post; rw [hm, h, if_pos hl]; rfl

theorem NoticeQueue.post_overflows (q : NoticeQueue) (k : NoticeKind) (p : Option Port) (d : Detail)
    (hm : q.masked k = false) (h : q.entries.any (fun n => n.isOf k p) = false)
    (hl : Config.noticeCapacity ≤ q.entries.length) :
    q.post k p d = { q with overflow := true } := by
  unfold NoticeQueue.post; rw [hm, h]; simp [Nat.not_lt.mpr hl]

/-- The four cases of a post. -/
theorem NoticeQueue.post_cases (q : NoticeQueue) (k : NoticeKind) (p : Option Port) (d : Detail) :
    q.post k p d = q ∨
    q.post k p d = { q with entries := q.entries.map (fun n => if n.isOf k p then n.raised else n) } ∨
    (q.entries.any (fun n => n.isOf k p) = false ∧ q.entries.length < Config.noticeCapacity ∧
      q.post k p d = { q with entries := q.entries ++ [⟨k, p, 1, d⟩] }) ∨
    q.post k p d = { q with overflow := true } := by
  cases hm : q.masked k with
  | true => exact .inl (q.post_masked k p d hm)
  | false =>
    cases h : q.entries.any (fun n => n.isOf k p) with
    | true => exact .inr (.inl (q.post_coalesces k p d hm h))
    | false =>
      by_cases hl : q.entries.length < Config.noticeCapacity
      · exact .inr (.inr (.inl ⟨rfl, hl, q.post_new k p d hm h hl⟩))
      · exact .inr (.inr (.inr (q.post_overflows k p d hm h (by omega))))

@[simp] theorem NoticeQueue.post_mask (q : NoticeQueue) (k : NoticeKind) (p : Option Port) (d : Detail) :
    (q.post k p d).mask = q.mask := by
  rcases q.post_cases k p d with h | h | ⟨-, -, h⟩ | h <;> rw [h]

@[simp] theorem Notice.raised_kind (n : Notice) : n.raised.kind = n.kind := rfl
@[simp] theorem Notice.raised_port (n : Notice) : n.raised.port = n.port := rfl
@[simp] theorem Notice.raised_detail (n : Notice) : n.raised.detail = n.detail := rfl

/-! ## Reservations (R27 to R33) -/

@[simp] theorem Reservation.break_failures (r : Reservation) (l : Line) (why : BreakReason) :
    (r.break l why).failures = r.failures := by
  unfold Reservation.break; split <;> (try split) <;> rfl

theorem Reservation.break_of_live (r : Reservation) (l : Line) (why : BreakReason) (h : r.isLiveOn l = true) :
    r.break l why = { r with state := .broken l why } := by
  unfold Reservation.isLiveOn at h; unfold Reservation.break
  split at h <;> simp_all

theorem Reservation.break_of_not_live (r : Reservation) (l : Line) (why : BreakReason)
    (h : r.isLiveOn l = false) : r.break l why = r := by
  unfold Reservation.isLiveOn at h; unfold Reservation.break
  split at h <;> simp_all

theorem State.breakForFault_get (s : State) (l : Line) (h : Holder) :
    (s.breakForFault l).reservations[h] = (s.reservations[h]).break l .fault := by
  simp [State.breakForFault]

theorem State.breakForConflict_get (s : State) (h k : Holder) (l : Line) :
    (s.breakForConflict h l).reservations[k] =
      if k = h then s.reservations[k] else (s.reservations[k]).break l .conflict := by
  simp [State.breakForConflict, Fin.ext_iff]

theorem State.reserve_get (s : State) (h k : Holder) (l : Line) :
    (s.reserve h l).reservations[k] =
      if h = k then { s.reservations[h] with state := .live l s.config.reservationLifetime }
      else s.reservations[k] := by
  simp only [State.reserve, State.setReservation_get]

theorem State.breakReadFailed_get (s : State) (h k : Holder) (l : Line) :
    (s.breakReadFailed h l).reservations[k] =
      if h = k then (s.reservations[h]).break l .readFailed else s.reservations[k] := by
  simp only [State.breakReadFailed, State.setReservation_get]

theorem State.clearHolders_get (s : State) (p : Port) (k : Holder) :
    (s.clearHolders p).reservations[k] = if portOf k = p then ⟨.idle, 0⟩ else s.reservations[k] := by
  simp only [State.clearHolders, State.setReservation_get]
  have h0 : holderOf p 0 = k ∨ holderOf p 1 = k ↔ portOf k = p := by
    simp [holderOf, portOf, Fin.ext_iff]; omega
  split
  · rename_i h; rw [if_pos (h0.mp (.inr h))]
  · split
    · rename_i h; rw [if_pos (h0.mp (.inl h))]
    · rename_i h1 h2; rw [if_neg (fun h => (h0.mpr h).elim h2 h1)]

/-! ## The fault list (R75) -/

theorem State.listFault_of_listed (s : State) (l : Line) (c : FaultCause) (p : Port) (h : s.listed l = true) :
    s.listFault l c p = s := by
  simp [State.listFault, h]

theorem State.listFault_adds (s : State) (l : Line) (c : FaultCause) (p : Port) (h : s.listed l = false)
    (hl : s.faults.length < Config.faultCapacity) :
    s.listFault l c p = State.post { s with faults := s.faults ++ [⟨l, c, p⟩] } .faultRecorded (some p) (.line l) := by
  simp [State.listFault, h, hl]

theorem State.listFault_full (s : State) (l : Line) (c : FaultCause) (p : Port) (h : s.listed l = false)
    (hl : Config.faultCapacity ≤ s.faults.length) :
    s.listFault l c p = s.post .faultListFull (some p) (.line l) := by
  unfold State.listFault; rw [h, if_neg (by simp), if_neg (by omega)]

/-- The three cases of R75. -/
theorem State.listFault_cases (s : State) (l : Line) (c : FaultCause) (p : Port) :
    s.listFault l c p = s ∨
    (s.listed l = false ∧ s.faults.length < Config.faultCapacity ∧
      s.listFault l c p =
        State.post { s with faults := s.faults ++ [⟨l, c, p⟩] } .faultRecorded (some p) (.line l)) ∨
    s.listFault l c p = s.post .faultListFull (some p) (.line l) := by
  cases h : s.listed l with
  | true => exact .inl (s.listFault_of_listed l c p h)
  | false =>
    by_cases hl : s.faults.length < Config.faultCapacity
    · exact .inr (.inl ⟨rfl, hl, s.listFault_adds l c p h hl⟩)
    · exact .inr (.inr (s.listFault_full l c p h (by omega)))

/-- The recording of a fault changes the fault list, the notices and the reservations, and nothing else. -/
theorem State.recordFault_frame (s : State) (l : Line) (c : FaultCause) (p : Port) :
    s.recordFault l c p =
      { s with
        faults := (s.recordFault l c p).faults
        notices := (s.recordFault l c p).notices
        reservations := (s.recordFault l c p).reservations } := by
  unfold State.recordFault
  rcases s.listFault_cases l c p with h | ⟨-, -, h⟩ | h <;> rw [h] <;> rfl

/-! ## Escalation (R51, R52) -/

/-- An escalation is refused with a notice, or takes a FREE record and posts the grant. -/
theorem State.escalate_cases (s : State) (h : Holder) (l : Line) :
    (∃ why, s.escalate h l = s.post .guardRefused (some (portOf h)) (.refusedLine l why)) ∨
    ∃ g, s.guardOn l = none ∧ s.guards[g] = .free ∧ s.escalate h l =
      (s.setGuard g (.active l h s.config.guardLifetime)).post .guardGranted (some (portOf h)) (.line l) := by
  unfold State.escalate
  cases hg : s.guardOn l with
  | some g => exact .inl ⟨_, rfl⟩
  | none =>
    cases hf : s.freeGuard with
    | none => exact .inl ⟨_, rfl⟩
    | some g =>
      refine .inr ⟨g, rfl, ?_, rfl⟩
      have := List.find?_some hf
      simpa using this

/-! ## The report of emptiness, and the end of fencing (R25, R147) -/

theorem State.reportEmpty_cases (s : State) :
    (s.partState = .draining ∧
      s.reportEmpty = State.post { s with partState := .quiesced } .drainDone none .none) ∨
    (s.partState ≠ .draining ∧ s.reportEmpty = s) := by
  unfold State.reportEmpty; split <;> simp_all

theorem State.removeEntries_cases (s : State) (gone : Entry → Bool) :
    s.removeEntries gone = s.setEntries (s.entries.filter (fun e => !gone e)) ∨
    (s.entries.filter (fun e => !gone e) = [] ∧ s.removeEntries gone = (s.setEntries []).reportEmpty) := by
  unfold State.removeEntries
  by_cases h : s.entries ≠ [] ∧ s.entries.filter (fun e => !gone e) = []
  · exact .inr ⟨h.2, by simp only [h, ne_eq, not_false_eq_true, and_self, if_true]⟩
  · exact .inl (by simp only [h, if_false])

theorem State.hasOrphan_eq_false (s : State) (p : Port) :
    s.hasOrphan p = false ↔ ∀ e ∈ s.entries, e.port = p → e.isOrphaned = false := by
  simp [State.hasOrphan, List.any_eq_false]

theorem State.hasOrphan_eq_true (s : State) (p : Port) :
    s.hasOrphan p = true ↔ ∃ e ∈ s.entries, e.port = p ∧ e.isOrphaned = true := by
  simp [State.hasOrphan]

/-- A FENCED port without an orphan leaves FENCED with a notice; otherwise nothing changes. -/
theorem State.endFencing_cases (s : State) (p : Port) :
    (s.ports[p].state = .fenced ∧ s.hasOrphan p = false ∧
      s.endFencing p =
        (s.setPort p { s.ports[p] with state := stateByEnable s.config.ports[p] }).post .portResetDone
          (some p) .none) ∨
    (¬ (s.ports[p].state = .fenced ∧ s.hasOrphan p = false) ∧ s.endFencing p = s) := by
  unfold State.endFencing
  split
  · rename_i h; exact .inl ⟨h.1, h.2, rfl⟩
  · rename_i h; exact .inr ⟨h, rfl⟩

end Sys2Proof.Machine
end

