-- ==== Sys2Proof/Laws/Table.lean ====
section
/-! SUPPORT. The table's work stays within its frame, operation by operation, and a law that every check keeps is kept
by the whole happening. -/

namespace Sys2Proof.Machine

open Sys2Proof

/-! ## The frame composes -/

theorem TableOnly.refl (s : State) : TableOnly s s :=
  ⟨rfl, rfl, fun _ => rfl, rfl, rfl, rfl, rfl, rfl, rfl, rfl, rfl, rfl, rfl, rfl, rfl, rfl, rfl⟩

theorem TableOnly.trans {s t u : State} (h : TableOnly s t) (k : TableOnly t u) : TableOnly s u where
  porAsserted := k.porAsserted.trans h.porAsserted
  config := k.config.trans h.config
  portState p := (k.portState p).trans (h.portState p)
  nextArrival := k.nextArrival.trans h.nextArrival
  faults := k.faults.trans h.faults
  banks := k.banks.trans h.banks
  grantOrder := k.grantOrder.trans h.grantOrder
  tags := k.tags.trans h.tags
  link := k.link.trans h.link
  mask := k.mask.trans h.mask
  mgmt := k.mgmt.trans h.mgmt
  wires := k.wires.trans h.wires
  frames := k.frames.trans h.frames
  linkOut := k.linkOut.trans h.linkOut
  delivered := k.delivered.trans h.delivered
  frameOut := k.frameOut.trans h.frameOut
  pending := k.pending.trans h.pending

/-- Replacing entries, the answer counter, reservations, guards and the part state stays within the frame. -/
theorem tableOnly_of_fields (s : State) (es : List Entry) (n : Nat) (rs : Vector Reservation 12)
    (gs : Vector GuardRecord 4) (ps : PartState) :
    TableOnly s { s with entries := es, nextAnswer := n, reservations := rs, guards := gs, partState := ps } :=
  ⟨rfl, rfl, fun _ => rfl, rfl, rfl, rfl, rfl, rfl, rfl, rfl, rfl, rfl, rfl, rfl, rfl, rfl, rfl⟩

theorem setEntries_tableOnly (s : State) (es : List Entry) : TableOnly s (s.setEntries es) :=
  tableOnly_of_fields s es s.nextAnswer s.reservations s.guards s.partState

theorem setReservation_tableOnly (s : State) (h : Holder) (r : Reservation) :
    TableOnly s (s.setReservation h r) :=
  tableOnly_of_fields s s.entries s.nextAnswer (s.reservations.set h r) s.guards s.partState

theorem setGuard_tableOnly (s : State) (g : GuardNo) (r : GuardRecord) : TableOnly s (s.setGuard g r) :=
  tableOnly_of_fields s s.entries s.nextAnswer s.reservations (s.guards.set g r) s.partState

theorem post_tableOnly (s : State) (k : NoticeKind) (p : Option Port) (d : Detail) : TableOnly s (s.post k p d) :=
  ⟨rfl, rfl, fun _ => rfl, rfl, rfl, rfl, rfl, rfl, rfl, by simp, rfl, rfl, rfl, rfl, rfl, rfl, rfl⟩

theorem placeResponse_tableOnly (s : State) (p : Port) (r : Response) : TableOnly s (s.placeResponse p r) :=
  ⟨rfl, rfl, fun _ => s.placeResponse_portState p _ r, rfl, rfl, rfl, rfl, rfl, rfl, rfl, rfl, rfl, rfl, rfl, rfl,
    rfl, rfl⟩

theorem updateEntry_tableOnly (s : State) (n : Nat) (f : Entry → Entry) : TableOnly s (s.updateEntry n f) :=
  setEntries_tableOnly s _

theorem markAnswered_tableOnly (s : State) (n : Nat) (st : Status) (d : Option Data) :
    TableOnly s (s.markAnswered n st d) :=
  tableOnly_of_fields s _ (s.nextAnswer + 1) s.reservations s.guards s.partState

theorem reportEmpty_tableOnly (s : State) : TableOnly s s.reportEmpty := by
  rcases s.reportEmpty_cases with ⟨-, h⟩ | ⟨-, h⟩ <;> rw [h]
  · exact (tableOnly_of_fields s s.entries s.nextAnswer s.reservations s.guards .quiesced).trans
      (post_tableOnly _ _ _ _)
  · exact .refl s

theorem removeEntries_tableOnly (s : State) (gone : Entry → Bool) : TableOnly s (s.removeEntries gone) := by
  rcases s.removeEntries_cases gone with h | ⟨-, h⟩ <;> rw [h]
  · exact setEntries_tableOnly s _
  · exact (setEntries_tableOnly s []).trans (reportEmpty_tableOnly _)

theorem placeEntry_tableOnly (s : State) (e : Entry) : TableOnly s (s.placeEntry e) := by
  unfold State.placeEntry
  split
  · exact (placeResponse_tableOnly s _ _).trans (removeEntries_tableOnly _ _)
  all_goals exact .refl s

theorem placeIfRoom_tableOnly (s : State) (n : Nat) : TableOnly s (s.placeIfRoom n) := by
  unfold State.placeIfRoom
  split
  · exact .refl s
  · split
    · exact placeEntry_tableOnly s _
    · exact .refl s

theorem answer_tableOnly (s : State) (n : Nat) (st : Status) (d : Option Data) : TableOnly s (s.answer n st d) :=
  (markAnswered_tableOnly s n st d).trans (placeIfRoom_tableOnly _ n)

theorem releaseGuard_tableOnly (s : State) (g : GuardNo) : TableOnly s (s.releaseGuard g) :=
  (setEntries_tableOnly s _).trans (setGuard_tableOnly _ _ _)

theorem escalate_tableOnly (s : State) (h : Holder) (l : Line) : TableOnly s (s.escalate h l) := by
  rcases s.escalate_cases h l with ⟨why, he⟩ | ⟨g, -, -, he⟩ <;> rw [he]
  · exact post_tableOnly s _ _ _
  · exact (setGuard_tableOnly s g _).trans (post_tableOnly _ _ _ _)

theorem makeReady_tableOnly (s : State) (e : Entry) : TableOnly s (s.makeReady e) := updateEntry_tableOnly s _ _

theorem passJudgement_tableOnly (s : State) (e : Entry) (l : Line) : TableOnly s (s.passJudgement e l) := by
  unfold State.passJudgement
  dsimp only
  split
  · exact ((setReservation_tableOnly s _ _).trans (releaseGuard_tableOnly _ _)).trans (makeReady_tableOnly _ e)
  · exact (setReservation_tableOnly s _ _).trans (makeReady_tableOnly _ e)

theorem failAsOwner_tableOnly (s : State) (e : Entry) (g : GuardNo) : TableOnly s (s.failAsOwner e g) :=
  ((setReservation_tableOnly s _ _).trans (releaseGuard_tableOnly _ g)).trans (answer_tableOnly _ _ _ _)

theorem failJudgement_tableOnly (s : State) (e : Entry) (l : Line) : TableOnly s (s.failJudgement e l) := by
  unfold State.failJudgement
  dsimp only
  split
  · exact (((markAnswered_tableOnly s _ _ _).trans (setReservation_tableOnly _ _ _)).trans
      (escalate_tableOnly _ _ _)).trans (placeIfRoom_tableOnly _ _)
  · exact ((markAnswered_tableOnly s _ _ _).trans (setReservation_tableOnly _ _ _)).trans
      (placeIfRoom_tableOnly _ _)

theorem judge_tableOnly (s : State) (e : Entry) (l : Line) : TableOnly s (s.judge e l) := by
  unfold State.judge
  dsimp only
  split
  · exact passJudgement_tableOnly s e l
  · split
    · exact failAsOwner_tableOnly s e _
    · exact failJudgement_tableOnly s e l

theorem examine_tableOnly (s : State) (e : Entry) : TableOnly s (s.examine e) := by
  unfold State.examine
  split
  · exact answer_tableOnly s _ _ _
  · split
    · exact answer_tableOnly s _ _ _
    · split
      · exact judge_tableOnly s e _
      · exact makeReady_tableOnly s e

theorem releaseCauses_tableOnly (s : State) : TableOnly s s.releaseCauses := setEntries_tableOnly s _

/-! ## A law that each check keeps is kept by the happening -/

theorem settleLoop_keeps (P : State → Prop) (hr : ∀ s, P s → P s.releaseCauses)
    (he : ∀ s e, e ∈ s.entries → s.isDue e = true → P s → P (s.examine e)) :
    ∀ n s, P s → P (State.settleLoop n s)
  | 0, s, h => hr s h
  | n + 1, s, h => by
    unfold State.settleLoop
    split
    · exact hr s h
    · rename_i e hf
      exact settleLoop_keeps P hr he n _
        (he _ e (List.mem_of_find?_eq_some hf) (List.find?_some hf) (hr s h))

/-- A law that the release of causes and every due check or answer keep is kept by `settle`. -/
theorem settle_keeps (P : State → Prop) (hr : ∀ s, P s → P s.releaseCauses)
    (he : ∀ s e, e ∈ s.entries → s.isDue e = true → P s → P (s.examine e)) (s : State) (h : P s) : P s.settle :=
  settleLoop_keeps P hr he s.weight s h

theorem settle_tableOnly (s : State) : TableOnly s s.settle :=
  settle_keeps (TableOnly s) (fun t h => h.trans (releaseCauses_tableOnly t))
    (fun t e _ _ h => h.trans (examine_tableOnly t e)) s (.refl s)

/-! ## What a happening of the table leaves -/

@[simp] theorem State.settle_porAsserted (s : State) : s.settle.porAsserted = s.porAsserted := (settle_tableOnly s).porAsserted
@[simp] theorem State.settle_config (s : State) : s.settle.config = s.config := (settle_tableOnly s).config
@[simp] theorem State.settle_nextArrival (s : State) : s.settle.nextArrival = s.nextArrival := (settle_tableOnly s).nextArrival
@[simp] theorem State.settle_faults (s : State) : s.settle.faults = s.faults := (settle_tableOnly s).faults
@[simp] theorem State.settle_banks (s : State) : s.settle.banks = s.banks := (settle_tableOnly s).banks
@[simp] theorem State.settle_grantOrder (s : State) : s.settle.grantOrder = s.grantOrder := (settle_tableOnly s).grantOrder
@[simp] theorem State.settle_tags (s : State) : s.settle.tags = s.tags := (settle_tableOnly s).tags
@[simp] theorem State.settle_link (s : State) : s.settle.link = s.link := (settle_tableOnly s).link
@[simp] theorem State.settle_mgmt (s : State) : s.settle.mgmt = s.mgmt := (settle_tableOnly s).mgmt
@[simp] theorem State.settle_wires (s : State) : s.settle.wires = s.wires := (settle_tableOnly s).wires
@[simp] theorem State.settle_frames (s : State) : s.settle.frames = s.frames := (settle_tableOnly s).frames
@[simp] theorem State.settle_linkOut (s : State) : s.settle.linkOut = s.linkOut := (settle_tableOnly s).linkOut
@[simp] theorem State.settle_delivered (s : State) : s.settle.delivered = s.delivered := (settle_tableOnly s).delivered
@[simp] theorem State.settle_frameOut (s : State) : s.settle.frameOut = s.frameOut := (settle_tableOnly s).frameOut
@[simp] theorem State.settle_pending (s : State) : s.settle.pending = s.pending := (settle_tableOnly s).pending

/-- The end of fencing changes the port's state and the notices alone. -/
theorem State.endFencing_frame (s : State) (p : Port) :
    s.endFencing p = { s with ports := (s.endFencing p).ports, notices := (s.endFencing p).notices } := by
  rcases s.endFencing_cases p with ⟨-, -, h⟩ | ⟨-, h⟩ <;> rw [h] <;> rfl

/-- The report of emptiness changes the part state and the notices alone. -/
theorem State.reportEmpty_frame (s : State) :
    s.reportEmpty = { s with partState := s.reportEmpty.partState, notices := s.reportEmpty.notices } := by
  rcases s.reportEmpty_cases with ⟨-, h⟩ | ⟨-, h⟩ <;> rw [h] <;> rfl

@[simp] theorem State.endFencing_porAsserted (s : State) (p : Port) : (s.endFencing p).porAsserted = s.porAsserted := by
  rw [s.endFencing_frame p]
@[simp] theorem State.endFencing_config (s : State) (p : Port) : (s.endFencing p).config = s.config := by
  rw [s.endFencing_frame p]
@[simp] theorem State.endFencing_nextArrival (s : State) (p : Port) : (s.endFencing p).nextArrival = s.nextArrival := by
  rw [s.endFencing_frame p]
@[simp] theorem State.endFencing_faults (s : State) (p : Port) : (s.endFencing p).faults = s.faults := by
  rw [s.endFencing_frame p]
@[simp] theorem State.endFencing_banks (s : State) (p : Port) : (s.endFencing p).banks = s.banks := by
  rw [s.endFencing_frame p]
@[simp] theorem State.endFencing_grantOrder (s : State) (p : Port) : (s.endFencing p).grantOrder = s.grantOrder := by
  rw [s.endFencing_frame p]
@[simp] theorem State.endFencing_tags (s : State) (p : Port) : (s.endFencing p).tags = s.tags := by
  rw [s.endFencing_frame p]
@[simp] theorem State.endFencing_link (s : State) (p : Port) : (s.endFencing p).link = s.link := by
  rw [s.endFencing_frame p]
@[simp] theorem State.endFencing_mgmt (s : State) (p : Port) : (s.endFencing p).mgmt = s.mgmt := by
  rw [s.endFencing_frame p]
@[simp] theorem State.endFencing_wires (s : State) (p : Port) : (s.endFencing p).wires = s.wires := by
  rw [s.endFencing_frame p]
@[simp] theorem State.endFencing_frames (s : State) (p : Port) : (s.endFencing p).frames = s.frames := by
  rw [s.endFencing_frame p]
@[simp] theorem State.endFencing_linkOut (s : State) (p : Port) : (s.endFencing p).linkOut = s.linkOut := by
  rw [s.endFencing_frame p]
@[simp] theorem State.endFencing_delivered (s : State) (p : Port) : (s.endFencing p).delivered = s.delivered := by
  rw [s.endFencing_frame p]
@[simp] theorem State.endFencing_frameOut (s : State) (p : Port) : (s.endFencing p).frameOut = s.frameOut := by
  rw [s.endFencing_frame p]
@[simp] theorem State.endFencing_pending (s : State) (p : Port) : (s.endFencing p).pending = s.pending := by
  rw [s.endFencing_frame p]
@[simp] theorem State.endFencing_entries (s : State) (p : Port) : (s.endFencing p).entries = s.entries := by
  rw [s.endFencing_frame p]
@[simp] theorem State.endFencing_nextAnswer (s : State) (p : Port) : (s.endFencing p).nextAnswer = s.nextAnswer := by
  rw [s.endFencing_frame p]
@[simp] theorem State.endFencing_reservations (s : State) (p : Port) : (s.endFencing p).reservations = s.reservations := by
  rw [s.endFencing_frame p]
@[simp] theorem State.endFencing_guards (s : State) (p : Port) : (s.endFencing p).guards = s.guards := by
  rw [s.endFencing_frame p]
@[simp] theorem State.endFencing_partState (s : State) (p : Port) : (s.endFencing p).partState = s.partState := by
  rw [s.endFencing_frame p]
@[simp] theorem State.reportEmpty_porAsserted (s : State) : s.reportEmpty.porAsserted = s.porAsserted := by
  rw [s.reportEmpty_frame]
@[simp] theorem State.reportEmpty_config (s : State) : s.reportEmpty.config = s.config := by
  rw [s.reportEmpty_frame]
@[simp] theorem State.reportEmpty_nextArrival (s : State) : s.reportEmpty.nextArrival = s.nextArrival := by
  rw [s.reportEmpty_frame]
@[simp] theorem State.reportEmpty_faults (s : State) : s.reportEmpty.faults = s.faults := by
  rw [s.reportEmpty_frame]
@[simp] theorem State.reportEmpty_banks (s : State) : s.reportEmpty.banks = s.banks := by
  rw [s.reportEmpty_frame]
@[simp] theorem State.reportEmpty_grantOrder (s : State) : s.reportEmpty.grantOrder = s.grantOrder := by
  rw [s.reportEmpty_frame]
@[simp] theorem State.reportEmpty_tags (s : State) : s.reportEmpty.tags = s.tags := by
  rw [s.reportEmpty_frame]
@[simp] theorem State.reportEmpty_link (s : State) : s.reportEmpty.link = s.link := by
  rw [s.reportEmpty_frame]
@[simp] theorem State.reportEmpty_mgmt (s : State) : s.reportEmpty.mgmt = s.mgmt := by
  rw [s.reportEmpty_frame]
@[simp] theorem State.reportEmpty_wires (s : State) : s.reportEmpty.wires = s.wires := by
  rw [s.reportEmpty_frame]
@[simp] theorem State.reportEmpty_frames (s : State) : s.reportEmpty.frames = s.frames := by
  rw [s.reportEmpty_frame]
@[simp] theorem State.reportEmpty_linkOut (s : State) : s.reportEmpty.linkOut = s.linkOut := by
  rw [s.reportEmpty_frame]
@[simp] theorem State.reportEmpty_delivered (s : State) : s.reportEmpty.delivered = s.delivered := by
  rw [s.reportEmpty_frame]
@[simp] theorem State.reportEmpty_frameOut (s : State) : s.reportEmpty.frameOut = s.frameOut := by
  rw [s.reportEmpty_frame]
@[simp] theorem State.reportEmpty_pending (s : State) : s.reportEmpty.pending = s.pending := by
  rw [s.reportEmpty_frame]
@[simp] theorem State.reportEmpty_entries (s : State) : s.reportEmpty.entries = s.entries := by
  rw [s.reportEmpty_frame]
@[simp] theorem State.reportEmpty_nextAnswer (s : State) : s.reportEmpty.nextAnswer = s.nextAnswer := by
  rw [s.reportEmpty_frame]
@[simp] theorem State.reportEmpty_reservations (s : State) : s.reportEmpty.reservations = s.reservations := by
  rw [s.reportEmpty_frame]
@[simp] theorem State.reportEmpty_guards (s : State) : s.reportEmpty.guards = s.guards := by
  rw [s.reportEmpty_frame]
@[simp] theorem State.reportEmpty_ports (s : State) : s.reportEmpty.ports = s.ports := by
  rw [s.reportEmpty_frame]
@[simp] theorem State.answer_porAsserted (s : State) (n : Nat) (st : Status) (d : Option Data) :
    (s.answer n st d).porAsserted = s.porAsserted := (answer_tableOnly s n st d).porAsserted
@[simp] theorem State.answer_config (s : State) (n : Nat) (st : Status) (d : Option Data) :
    (s.answer n st d).config = s.config := (answer_tableOnly s n st d).config
@[simp] theorem State.answer_nextArrival (s : State) (n : Nat) (st : Status) (d : Option Data) :
    (s.answer n st d).nextArrival = s.nextArrival := (answer_tableOnly s n st d).nextArrival
@[simp] theorem State.answer_faults (s : State) (n : Nat) (st : Status) (d : Option Data) :
    (s.answer n st d).faults = s.faults := (answer_tableOnly s n st d).faults
@[simp] theorem State.answer_banks (s : State) (n : Nat) (st : Status) (d : Option Data) :
    (s.answer n st d).banks = s.banks := (answer_tableOnly s n st d).banks
@[simp] theorem State.answer_grantOrder (s : State) (n : Nat) (st : Status) (d : Option Data) :
    (s.answer n st d).grantOrder = s.grantOrder := (answer_tableOnly s n st d).grantOrder
@[simp] theorem State.answer_tags (s : State) (n : Nat) (st : Status) (d : Option Data) :
    (s.answer n st d).tags = s.tags := (answer_tableOnly s n st d).tags
@[simp] theorem State.answer_link (s : State) (n : Nat) (st : Status) (d : Option Data) :
    (s.answer n st d).link = s.link := (answer_tableOnly s n st d).link
@[simp] theorem State.answer_mgmt (s : State) (n : Nat) (st : Status) (d : Option Data) :
    (s.answer n st d).mgmt = s.mgmt := (answer_tableOnly s n st d).mgmt
@[simp] theorem State.answer_wires (s : State) (n : Nat) (st : Status) (d : Option Data) :
    (s.answer n st d).wires = s.wires := (answer_tableOnly s n st d).wires
@[simp] theorem State.answer_frames (s : State) (n : Nat) (st : Status) (d : Option Data) :
    (s.answer n st d).frames = s.frames := (answer_tableOnly s n st d).frames
@[simp] theorem State.answer_linkOut (s : State) (n : Nat) (st : Status) (d : Option Data) :
    (s.answer n st d).linkOut = s.linkOut := (answer_tableOnly s n st d).linkOut
@[simp] theorem State.answer_delivered (s : State) (n : Nat) (st : Status) (d : Option Data) :
    (s.answer n st d).delivered = s.delivered := (answer_tableOnly s n st d).delivered
@[simp] theorem State.answer_frameOut (s : State) (n : Nat) (st : Status) (d : Option Data) :
    (s.answer n st d).frameOut = s.frameOut := (answer_tableOnly s n st d).frameOut
@[simp] theorem State.answer_pending (s : State) (n : Nat) (st : Status) (d : Option Data) :
    (s.answer n st d).pending = s.pending := (answer_tableOnly s n st d).pending
@[simp] theorem State.endOperation_porAsserted (s : State) (e : Entry) (st : Status) (d : Option Data) :
    (s.endOperation e st d).porAsserted = s.porAsserted := by
  unfold State.endOperation; dsimp only; (repeat' split) <;> simp
@[simp] theorem State.endOperation_config (s : State) (e : Entry) (st : Status) (d : Option Data) :
    (s.endOperation e st d).config = s.config := by
  unfold State.endOperation; dsimp only; (repeat' split) <;> simp
@[simp] theorem State.endOperation_nextArrival (s : State) (e : Entry) (st : Status) (d : Option Data) :
    (s.endOperation e st d).nextArrival = s.nextArrival := by
  unfold State.endOperation; dsimp only; (repeat' split) <;> simp
@[simp] theorem State.endOperation_faults (s : State) (e : Entry) (st : Status) (d : Option Data) :
    (s.endOperation e st d).faults = s.faults := by
  unfold State.endOperation; dsimp only; (repeat' split) <;> simp
@[simp] theorem State.endOperation_banks (s : State) (e : Entry) (st : Status) (d : Option Data) :
    (s.endOperation e st d).banks = s.banks := by
  unfold State.endOperation; dsimp only; (repeat' split) <;> simp
@[simp] theorem State.endOperation_grantOrder (s : State) (e : Entry) (st : Status) (d : Option Data) :
    (s.endOperation e st d).grantOrder = s.grantOrder := by
  unfold State.endOperation; dsimp only; (repeat' split) <;> simp
@[simp] theorem State.endOperation_tags (s : State) (e : Entry) (st : Status) (d : Option Data) :
    (s.endOperation e st d).tags = s.tags := by
  unfold State.endOperation; dsimp only; (repeat' split) <;> simp
@[simp] theorem State.endOperation_link (s : State) (e : Entry) (st : Status) (d : Option Data) :
    (s.endOperation e st d).link = s.link := by
  unfold State.endOperation; dsimp only; (repeat' split) <;> simp
@[simp] theorem State.endOperation_mgmt (s : State) (e : Entry) (st : Status) (d : Option Data) :
    (s.endOperation e st d).mgmt = s.mgmt := by
  unfold State.endOperation; dsimp only; (repeat' split) <;> simp
@[simp] theorem State.endOperation_wires (s : State) (e : Entry) (st : Status) (d : Option Data) :
    (s.endOperation e st d).wires = s.wires := by
  unfold State.endOperation; dsimp only; (repeat' split) <;> simp
@[simp] theorem State.endOperation_frames (s : State) (e : Entry) (st : Status) (d : Option Data) :
    (s.endOperation e st d).frames = s.frames := by
  unfold State.endOperation; dsimp only; (repeat' split) <;> simp
@[simp] theorem State.endOperation_linkOut (s : State) (e : Entry) (st : Status) (d : Option Data) :
    (s.endOperation e st d).linkOut = s.linkOut := by
  unfold State.endOperation; dsimp only; (repeat' split) <;> simp
@[simp] theorem State.endOperation_delivered (s : State) (e : Entry) (st : Status) (d : Option Data) :
    (s.endOperation e st d).delivered = s.delivered := by
  unfold State.endOperation; dsimp only; (repeat' split) <;> simp
@[simp] theorem State.endOperation_frameOut (s : State) (e : Entry) (st : Status) (d : Option Data) :
    (s.endOperation e st d).frameOut = s.frameOut := by
  unfold State.endOperation; dsimp only; (repeat' split) <;> simp
@[simp] theorem State.endOperation_pending (s : State) (e : Entry) (st : Status) (d : Option Data) :
    (s.endOperation e st d).pending = s.pending := by
  unfold State.endOperation; dsimp only; (repeat' split) <;> simp

end Sys2Proof.Machine
end

