-- ==== Sys2Proof/Tests/Slice0.lean ====
section
/-! SUPPORT. Tests of single commands, each with an expected result read from the manual, and for each statement with
hypotheses a state and operands that meet them. -/

namespace Sys2Proof.Tests

open Sys2Proof Sys2Proof.Machine

/-! ## Small states -/

/-- An ONLINE part with the link UP and every port enabled and ACTIVE, otherwise as after power-on. -/
def online : State :=
  { State.reset with
    partState := .online
    link := .up
    config := { Configuration.powerOn with ports := Vector.replicate 6 ⟨true, .line, 16⟩ }
    ports := Vector.replicate 6 ⟨.active, []⟩
    linkOut := [] }

/-- The 64 bytes of every write of the tests. -/
def bytes64 : Data := 7

/-- An entry of port p with context 0, the given place in the arrival order, and the port tag of the same number. -/
def entry (n : Nat) (p : Port) (k : RequestKind) (l : Line) (st : EntryState) : Entry :=
  ⟨p, BitVec.ofNat 5 n, 0, k, some l, none, if isWrite k then some bytes64 else none, n, st, 0⟩

/-- The ONLINE part with the given entries. -/
def holding (es : List Entry) : State := { online with entries := es, nextArrival := 40 }

/-- A request with context 0. -/
def ask (n : Nat) (k : RequestKind) (l : Line) : Request := ⟨BitVec.ofNat 5 n, k, 0, some l, none, bytes64⟩

/-- HELD with cause LINE alone. -/
def heldLine : EntryState := .held ⟨true, false, false⟩

/-- A response to port tag 0. -/
def okResponse : Response := ⟨0, .ok, none, none, false⟩

/-- What a command makes of a state, seen through f; none if it does not answer a next state. -/
def seen {α : Type} (c : Instr) (s : State) (f : State → α) : Option α :=
  match exec c s with
  | .next t => some (f t)
  | .fault _ => none
  | .refused _ => none

/-- What a response shows beside its data and its immediate flag. -/
structure Brief where
  portTag : PortTag
  status : Status
  reason : Option Reason
deriving DecidableEq, Repr

/-- What a response shows beside its data and its immediate flag. -/
def brief (r : Response) : Brief := ⟨r.portTag, r.status, r.reason⟩

/-- What a notice shows beside its detail. -/
structure Shown where
  kind : NoticeKind
  port : Option Port
  count : Nat
deriving DecidableEq, Repr

/-- What a notice shows beside its detail. -/
def shown (n : Notice) : Shown := ⟨n.kind, n.port, n.count⟩

/-! ## Well-formedness -/

/-- R169: codes 1 to 7 take a command, so they spell no UNKNOWN_COMMAND. -/
theorem test_unknownCommand_refuses_known_code : (Instr.unknownCommand 7 0).wellFormed = false := by decide

/-- R166: operation 2 at address 29 lies in the window, so the frame is no BAD_ADDRESS. -/
theorem test_badAddress_refuses_word_in_window : (Instr.badAddress 2 29).wellFormed = false := by decide

/-! ## The table and the ports -/

/-- The state of section 11.3: guard 0 of (P1, context 0) on 5E00h, guard 1 of (P5, context 0) on 3C80h, its record LIVE
there with its count at the threshold, two undelivered responses at P5, and five entries. -/
def section113 : State :=
  { holding
      [entry 1 5 .write 0x2A01 (.issued 3), entry 2 0 .read 0x2A01 heldLine,
       entry 3 2 .write 0x3C80 (.deferred 1),
       { entry 4 5 .writeConditional 0x5E00 (.deferred 0) with context := 1 },
       entry 5 5 .read 0x1F41 .ready] with
    guards := #v[.active 0x5E00 2 128, .active 0x3C80 10 128, .free, .free]
    reservations := online.reservations.set 10 ⟨.live 0x3C80 64, 4⟩
    ports := online.ports.set 5 ⟨.active, [okResponse, okResponse]⟩
    tags := online.tags.set 3 (.busy 1 1000)
    banks := online.banks.set 1 (.busy 3) }

/-- Section 11.3: e1 is ORPHANED, e4 and e5 are gone, e3 is READY. -/
theorem test_prst_orphans_and_releases :
    seen (.prstNAsserted 5) section113 (fun s => (s.entries.map (fun e => (e.arrival, e.state)), s.guards[1]))
      = some ([(1, .orphaned 3), (2, heldLine), (3, .ready)], .free) := by decide

/-- Section 11.3: P5 stays FENCED with an empty response queue, and its record is IDLE with count 0. -/
theorem test_prst_fences_the_port :
    seen (.prstNAsserted 5) section113 (fun s => (s.ports[5], s.reservations[10], s.notices.entries))
      = some (⟨.fenced, []⟩, ⟨.idle, 0⟩, []) := by decide

/-- Section 11.3 after the reset, as the completion for tag 3 finds it. -/
def section113Fenced : State :=
  { holding [entry 1 5 .write 0x2A01 (.orphaned 3), entry 2 0 .read 0x2A01 heldLine] with
    ports := online.ports.set 5 ⟨.fenced, []⟩
    tags := online.tags.set 3 (.busy 1 1000)
    banks := online.banks.set 1 (.busy 3) }

/-- Section 11.3: DATA_ERROR for the orphan records the fault, poisons e2 and ends the fencing. -/
theorem test_completion_of_an_orphan :
    seen (.completion ⟨3, .dataError, none⟩) section113Fenced
      (fun s => (s.faults, s.ports[0].responses.map brief, s.ports[5].state))
      = some ([⟨0x2A01, .writeError, 5⟩], [⟨2, .poisoned, none⟩], .active) ∧
    seen (.completion ⟨3, .dataError, none⟩) section113Fenced (fun s => s.notices.entries.map shown)
      = some [⟨.faultRecorded, some 5, 1⟩, ⟨.portResetDone, some 5, 1⟩] := by decide

/-- Section 5.7: the completion of tag 0 frees it, bank 0 recovers for 4 steps of 10 ns, and e1 is answered OK. -/
theorem test_completion_recovers_the_bank :
    seen (.completion ⟨0, .done, some 9⟩)
      { holding [entry 1 0 .read 0x1F40 (.issued 0)] with
        tags := online.tags.set 0 (.busy 1 1000), banks := online.banks.set 0 (.busy 0) }
      (fun s => (s.tags[0], s.banks[0], s.ports[0].responses.map (fun r => (brief r, r.data.isSome))))
      = some (.free, .recovering 4, [(⟨1, .ok, none⟩, true)]) := by decide

/-- Section 5.7: tag 1's timer runs out: QUARANTINED, no fault for a read, COMPLETION_TIMEOUT with port P1. -/
theorem test_timeout_quarantines :
    seen (.completionTimeout 1)
      { holding [entry 1 1 .read 0x1F41 (.issued 1)] with
        tags := online.tags.set 1 (.busy 1 1000), banks := online.banks.set 1 (.busy 1) }
      (fun s => (s.tags[1], s.faults, s.notices.entries))
      = some (.quarantined .read 0x1F41 1, [], [⟨.completionTimeout, some 1, 1, .tag 1⟩]) := by decide

/-- Section 6.9, the fourth dispatch: overdue e1 is chosen although P0 stands ahead of P2. -/
theorem test_dispatch_takes_the_overdue :
    seen .dispatch
      { holding [{ entry 1 2 .read 0x1F40 .ready with bypass := 2 }, entry 5 0 .read 0x3C80 .ready,
          entry 6 1 .read 0x71C0 .ready] with
        config := { online.config with bypassLimit := 2 }, grantOrder := [3, 4, 5, 0, 2, 1]
        tags := online.tags.set 1 (.busy 4 1000) }
      (fun s => (s.grantOrder, s.entries.map (fun e => (e.state, e.bypass))))
      = some ([3, 4, 5, 0, 1, 2], [(.issued 0, 2), (.ready, 0), (.ready, 0)]) := by decide

/-- Section 6.9, the first dispatch: P0's e2 is chosen, and older e1 on its bank is bypassed. -/
theorem test_dispatch_raises_the_bypass_count :
    seen .dispatch
      (holding [entry 1 2 .read 0x1F40 .ready, entry 2 0 .read 0x2040 .ready, entry 3 1 .read 0x2140 .ready])
      (fun s => (s.grantOrder, s.entries.map (fun e => (e.state, e.bypass)), s.linkOut))
      = some ([1, 2, 3, 4, 5, 0], [(.ready, 1), (.issued 0, 0), (.ready, 0)],
          [.dispatch 0 .read 0x2040 none none]) := by decide

/-- R77: a read of a listed line is answered POISONED at its line head. -/
theorem test_request_of_a_listed_line :
    seen (.request 0 (ask 1 .read 0x71C0)) { online with faults := [⟨0x71C0, .writeError, 3⟩] }
      (fun s => (s.entries, s.ports[0].responses.map brief)) = some ([], [⟨1, .poisoned, none⟩]) := by decide

/-- R142: a port tag held by an entry of the port is refused, with a notice. -/
theorem test_request_tag_in_use :
    seen (.request 4 (ask 3 .read 0x10)) (holding [entry 3 4 .read 0x2A01 .ready])
      (fun s => (s.ports[4].responses, s.notices.entries))
      = some ([⟨3, .refused, some .tagInUse, none, true⟩], [⟨.tagInUse, some 4, 1, .portTag 3⟩]) := by decide

/-- R145, R20: the freed place goes to the entry answered first. -/
theorem test_delivery_fills_the_place :
    seen (.delivery 1)
      { holding [entry 3 1 .read 0x10 (.answered .timeout 6), entry 4 1 .write 0x20 (.answered .ok 5)] with
        ports := online.ports.set 1 ⟨.active, List.replicate 8 okResponse⟩ }
      (fun s => (s.ports[1].responses.map brief, s.entries.map (·.arrival)))
      = some (List.replicate 7 ⟨0, .ok, none⟩ ++ [⟨4, .ok, none⟩], [3]) := by decide

/-! ## The link and the timers -/

/-- A part with one operation outstanding: P4's write of 5E00h on tag 0, bank 0. -/
def issuedWrite : State :=
  { holding [entry 1 4 .write 0x5E00 (.issued 0)] with
    tags := online.tags.set 0 (.busy 1 1000), banks := online.banks.set 0 (.busy 0) }

/-- R129, R74: an abort records an outstanding write with WRITE_ABORTED, answers it, and posts LINK_DOWN last. -/
theorem test_linkDown_aborts :
    seen .linkDown issuedWrite (fun s => (s.faults, s.ports[4].responses.map brief, s.tags[0], s.banks[0]))
      = some ([⟨0x5E00, .writeAborted, 4⟩], [⟨1, .aborted, none⟩], .free, .idle) ∧
    seen .linkDown issuedWrite (fun s => s.notices.entries.map shown)
      = some [⟨.faultRecorded, some 4, 1⟩, ⟨.linkDown, none, 1⟩] := by decide

/-- R117: LINK_UP makes a DOWN link UP. -/
theorem test_linkUp : seen .linkUp State.reset (·.link) = some .up := by decide

/-- R32: expiry keeps the line and the failure count. -/
theorem test_reservationExpiry :
    seen (.reservationExpiry 11) { online with reservations := online.reservations.set 11 ⟨.live 0x3C80 64, 2⟩ }
      (fun s => s.reservations[11]) = some ⟨.broken 0x3C80 .expired, 2⟩ := by decide

/-- R60, R58: the owner's count becomes 0, and the deferred write, alone on its line, becomes READY. -/
theorem test_guardExpiry :
    seen (.guardExpiry 1)
      { holding [entry 3 2 .write 0x3C80 (.deferred 1)] with
        guards := online.guards.set 1 (.active 0x3C80 10 128)
        reservations := online.reservations.set 10 ⟨.live 0x3C80 64, 4⟩ }
      (fun s => (s.guards[1], s.reservations[10], s.entries.map (·.state), s.notices.entries))
      = some (.free, ⟨.live 0x3C80 64, 0⟩, [.ready], [⟨.guardExpired, some 5, 1, .line 0x3C80⟩]) := by decide

/-- R92: the bank becomes IDLE. -/
theorem test_bankRecoveryExpiry :
    seen (.bankRecoveryExpiry 31) { online with banks := online.banks.set 31 (.recovering 4) } (fun s => s.banks[31])
      = some .idle := by decide

/-! ## Power-on and commands -/

/-- R154, R177: POR_n takes the part back, whatever it was doing, and ALERT is deasserted. -/
theorem test_por_asserted :
    seen .porNAsserted { section113 with notices := ⟨[⟨.linkDown, none, 1, .none⟩], true, 2⟩ }
      (fun s => (s.partState, s.entries, s.notices, s.alert)) = some (.offline, [], ⟨[], false, 0⟩, false) := by decide

/-- R131: LINK_RESET is sent as POR_n is deasserted. -/
theorem test_por_deasserted :
    seen .porNDeasserted { online with porAsserted := true } (fun s => (s.porAsserted, s.linkOut))
      = some (false, [.linkReset]) := by decide

/-- R154, R156: a GO_ONLINE straight after power-on fails its check. -/
theorem test_goOnline_after_power_on :
    seen (.goOnline 0) State.reset (fun s => (s.partState, s.mgmt.result, s.mgmt.resultCode))
      = some (.offline, .configInvalid, 1) := by decide

/-- R157: a DRAIN of an empty table is QUIESCED at once, with DRAIN_DONE. -/
theorem test_drain_of_an_empty_table :
    seen (.drain 0) online (fun s => (s.partState, s.mgmt.result, s.notices.entries))
      = some (.quiesced, .done, [⟨.drainDone, none, 1, .none⟩]) := by decide

/-- R160, R170: FULL_RESET empties the part, keeps the configuration, and leaves DONE with code 3. -/
theorem test_fullReset :
    seen (.fullReset 0) section113 (fun s => (s.entries, s.ports[5], s.wordAt 4, s.config.bypassLimit, s.linkOut))
      = some ([], ⟨.active, []⟩, 0x301, 8, [.linkReset]) := by decide

/-- R169: a port argument of 6 resets no port. -/
theorem test_portReset_bad_argument :
    seen (.portReset 0x60000) section113 (fun s => (s.mgmt.result, s.ports[5].state)) = some (.badArgument, .active) := by
  decide

/-- R130: LINK_RESET with the link DOWN sends LINK_RESET and posts nothing. -/
theorem test_linkReset_while_down :
    seen (.linkReset 0) { online with link := .down } (fun s => (s.linkOut, s.link, s.notices.entries, s.mgmt.result))
      = some ([.linkReset], .down, [], .done) := by decide

/-- R169, R80: bits 33–32 of the line come from the command word. -/
theorem test_clearFault :
    seen (.clearFault 2)
      { online with
        faults := [⟨0x200000010, .readError, 0⟩, ⟨0x10, .readError, 1⟩]
        mgmt := { online.mgmt with lineArgument := 0x10 } }
      (fun s => (s.faults, s.mgmt.result)) = some ([⟨0x10, .readError, 1⟩], .done) := by decide

/-- R80: CLEAR_ALL_FAULTS is DONE on an empty list too. -/
theorem test_clearAllFaults :
    seen (.clearAllFaults 0) online (fun s => (s.faults, s.wordAt 4)) = some ([], 0x701) := by decide

/-- R169, R170: the result word shows BAD_ARGUMENT with the code written. -/
theorem test_unknownCommand :
    seen (.unknownCommand 255 0) online (fun s => s.wordAt 4) = some 0xFF04 := by decide

/-! ## Frames -/

/-- R168, R136: a taken write enables P2, STRICT with quota 40, and P2 is ACTIVE at once. -/
theorem test_configurationWrite_enables :
    seen (.configurationWrite (.port 2) 0x2803) State.reset (fun s => (s.ports[2].state, s.wordAt 8))
      = some (.active, 0x2803) := by decide

/-- R168: a quota of 41 denies the whole frame. -/
theorem test_configurationWrite_out_of_range :
    seen (.configurationWrite (.port 2) 0x2901) State.reset (fun s => (s.ports[2].state, s.wordAt 8, s.mgmt.frameStatus))
      = some (.disabled, 0x1000, .denied) := by decide

/-- R167: bits 1 to 13 are stored. -/
theorem test_noticeMaskWrite :
    seen (.noticeMaskWrite 0xFFFFFFFF) online (fun s => s.wordAt 19) = some 0x3FFE := by decide

/-- R171: index 12 lies outside the tags. -/
theorem test_readOutSelectorWrite_denied :
    seen (.readOutSelectorWrite 0xC00) online (fun s => (s.wordAt 20, s.mgmt.frameStatus)) = some (0, .denied) := by decide

/-- R175: the oldest entry is shifted out and removed, and its line stands in the detail word. -/
theorem test_noticeHeadRead :
    seen (.noticeHeadRead 4)
      { online with notices := ⟨[⟨.guardRefused, some 2, 3, .refusedLine 0x100000040 .tableFull⟩], false, 0⟩ }
      (fun s => (s.frameOut, s.notices.entries, s.wordAt 17))
      = some ([⟨.ok, [0x12, 0x03, 0x02, 0x02]⟩], [], 0x40) := by decide

/-- R175: the status word shows the flag, and the read clears it. -/
theorem test_noticeStatusRead :
    seen (.noticeStatusRead 4) { online with notices := ⟨[⟨.linkDown, none, 1, .none⟩], true, 0⟩ }
      (fun s => (s.frameOut, s.notices.overflow)) = some ([⟨.ok, [0, 0, 3, 1]⟩], false) := by decide

/-- R167: a write to a read-only word is DENIED. -/
theorem test_registerWrite_read_only :
    seen (.registerWrite .identification 1) online (fun s => (s.wordAt 0, s.mgmt.frameStatus))
      = some (0x01B84701, .denied) := by decide

/-- R166: a frame at address 30 shifts out four zero bytes. -/
theorem test_badAddress :
    seen (.badAddress 1 30) online (fun s => (s.frameOut, s.mgmt.frameStatus))
      = some ([⟨.ok, [0, 0, 0, 0]⟩], .badAddress) := by decide

/-- R165, R169: command word 06000002h is CLEAR_FAULT with line bits 33–32 equal to 2, and a byte after the fourth is
ignored. -/
theorem test_decodeFrame_command_word :
    decodeFrame [0x02, 0x02, 0x06, 0x00, 0x00, 0x02] = .command (.clearFault 2) ∧
    decodeFrame [0x02, 0x02, 0x04, 0x05, 0x00, 0x00, 0xFF] = .command (.portReset 0x50000) ∧
    decodeFrame [0x02, 0x02, 0x08, 0x00, 0x00, 0x01] = .command (.unknownCommand 8 1) := by decide

/-- R165, R167: the write frames of the other addresses, most significant data byte first. -/
theorem test_decodeFrame_writes :
    decodeFrame [0x02, 0x08, 0x00, 0x00, 0x28, 0x03] = .command (.configurationWrite (.port 2) 0x2803) ∧
    decodeFrame [0x02, 0x03, 0x12, 0x34, 0x56, 0x78] = .command (.registerWrite .lineArgument 0x12345678) ∧
    decodeFrame [0x02, 0x13, 0x00, 0x00, 0x20, 0x02] = .command (.noticeMaskWrite 0x2002) ∧
    decodeFrame [0x02, 0x14, 0x00, 0x00, 0x1F, 0x04] = .command (.readOutSelectorWrite 0x1F04) ∧
    decodeFrame [0x02, 0x1D, 0x00, 0x00, 0x00, 0x00] = .command (.registerWrite .guardsAndFaults 0) ∧
    decodeFrame [0x02, 0x1E, 0x00, 0x00, 0x00, 0x00] = .command (.badAddress 2 30) := by decide

/-- R165, R166: read frames, a bad operation byte, and the frames cut short. -/
theorem test_decodeFrame_reads :
    decodeFrame [0x01, 0x10] = .command (.noticeHeadRead 0) ∧
    decodeFrame [0x01, 0x12, 0, 0, 0, 0] = .command (.noticeStatusRead 4) ∧
    decodeFrame [0x01, 0x1E, 0, 0, 0, 0] = .command (.badAddress 1 30) ∧
    decodeFrame [0x03, 0x00, 0, 0, 0, 0] = .command (.badAddress 3 0) ∧
    decodeFrame [0x01, 0x00, 0, 0, 0, 0] = .quiet (.read 0 4) ∧ decodeFrame [0x02, 0x02, 0x01, 0, 0] = .quiet .cutShort ∧
    decodeFrame [0x01] = .quiet .cutShort ∧ decodeFrame [] = .quiet .empty := by decide

/-- R165: with no command waiting, a step takes the frame; R154, R156: a GO_ONLINE straight after power-on fails its
check. -/
theorem test_step_takes_a_frame :
    (match step { State.reset with frames := [[0x02, 0x02, 0x01, 0, 0, 0], [0x01]] } with
     | .next t => some (t.mgmt.result, t.mgmt.resultCode, t.frames, t.frameOut)
     | .fault _ => none
     | .refused _ => none) = some (.configInvalid, 1, [[0x01]], [⟨.ok, []⟩]) := by decide

/-! ## Witnesses: for each statement with hypotheses, a state and operands that meet them, clause by clause -/

/-- A part held by POR_n. -/
def heldPart : State := { State.reset with porAsserted := true }

/-- The answer that the condition of ArrivalChecksAnswerInOrder gives. -/
def firstCheck (s : State) (p : Port) (m : Request) : Option (Status × Reason) :=
  if s.ports[p].state = .disabled then some (Status.refused, Reason.portDisabled)
  else if s.ports[p].state = .fenced then some (.retry, .portFenced)
  else if s.partState ≠ .online then some (.retry, .notOnline)
  else if (m.mask.isSome ∧ m.kind ≠ .write) ∨ (m.kind = .barrier ∧ m.line.isSome) ∨
    (m.kind ≠ .barrier ∧ m.line = none) ∨ m.context = 2 ∨ m.context = 3 then some (.refused, .badForm)
  else if m.line.any (fun l => 2 ^ s.config.memorySizeLog2 / 64 ≤ l.toNat) = true then some (.refused, .outOfRange)
  else if ∃ e ∈ s.entries, e.port = p ∧ e.portTag = m.portTag then some (.refused, .tagInUse)
  else if s.config.ports[p].quota ≤ s.entryCount p ∨
    64 < s.entries.length + 1 + ∑ q : Port,
      (if q ≠ p ∧ s.config.ports[q].enable = true ∧ s.ports[q].state = .active then 2 - s.entryCount q else 0)
    then some (.retry, .tableFull)
  else none

/-- Port 0 with n entries of its own, and a quota of 4. -/
def nearQuota (n : Nat) : State :=
  { holding ((List.range n).map fun i => entry i 0 .read (BitVec.ofNat 34 i) .ready) with
    config := { online.config with ports := online.config.ports.set 0 ⟨true, .line, 4⟩ } }

/-- n entries of no port but 0, against a reserve of 10 for the other five. -/
def nearReserve (n : Nat) : State :=
  { holding (List.replicate n (entry 1 0 .read 0 .ready)) with
    config := { online.config with ports := online.config.ports.set 0 ⟨true, .line, 60⟩ } }

theorem witness_EmptyQueueIdlesOrTakesWhatWaits :
    heldPart.pending = [] ∧ State.reset.pending = [] ∧
    { online with frames := [[2, 2, 1, 0, 0, 0], [1]] }.frames = [2, 2, 1, 0, 0, 0] :: [[1]] ∧
    decodeFrame [2, 2, 1, 0, 0, 0] = .command (.goOnline 0) ∧ decodeFrame [1] = .quiet .cutShort ∧
    ∀ p : Port, State.reset.wires[p] = [] ∨ 8 ≤ State.reset.ports[p].responses.length := by
  refine ⟨rfl, rfl, rfl, by decide, by decide, fun p => .inl ?_⟩
  fin_cases p <;> rfl

/-- Requests at the wires of P4, whose response queue is full, and of P5, whose queue has one place. -/
def queued : State :=
  { online with
    wires := (online.wires.set 5 [ask 1 .read 0]).set 4 [ask 1 .read 0]
    ports := (online.ports.set 5 ⟨.active, List.replicate 7 okResponse⟩).set 4 ⟨.active, List.replicate 8 okResponse⟩ }

theorem witness_EmptyQueueTakesTheWaitingRequest :
    queued.wires[(5 : Port)] = ask 1 .read 0 :: [] ∧ queued.ports[(5 : Port)].responses.length < 8 ∧
    ∀ q : Port, q < 5 → queued.wires[q] = [] ∨ 8 ≤ queued.ports[q].responses.length := by
  refine ⟨rfl, by decide, fun q h => ?_⟩
  fin_cases q
  · exact .inl rfl
  · exact .inl rfl
  · exact .inl rfl
  · exact .inl rfl
  · exact .inr (by decide)
  · exact absurd h (by decide)

theorem witness_EveryCommandCompletesAndKeepsTheQueue :
    (Instr.unknownCommand 8 0).wellFormed = true ∧ (Instr.unknownCommand 0 0).wellFormed = true ∧
    (Instr.badAddress 1 30).wellFormed = true ∧ (Instr.badAddress 3 0).wellFormed = true ∧
    (Instr.unknownCommand 1 0).wellFormed = false ∧ (Instr.badAddress 1 29).wellFormed = false := by decide

theorem witness_StepRunsFrontCommand :
    { online with pending := [.dispatch, .linkUp] }.pending = .dispatch :: [.linkUp] := by decide

theorem witness_PowerOnAssertionAndRelease :
    heldPart.porAsserted = true ∧ State.reset.porAsserted = false := by decide

theorem witness_HeldPartTakesNothing :
    heldPart.porAsserted = true ∧ Instr.linkUp.wellFormed = true ∧ Instr.linkUp ≠ .porNAsserted ∧
    Instr.linkUp ≠ .porNDeasserted ∧ (∀ p m, Instr.linkUp ≠ .request p m) ∧
    (Instr.request 0 (ask 1 .read 0)).wellFormed = true :=
  ⟨rfl, rfl, by decide, by decide, fun _ _ h => Instr.noConfusion h, rfl⟩

theorem witness_ArrivalChecksAnswerInOrder :
    online.porAsserted = false ∧ online.wires[(0 : Port)] = [] ∧ online.ports[(0 : Port)].responses.length < 8 ∧
    firstCheck State.reset 0 (ask 1 .read 0) = some (.refused, .portDisabled) := by
  refine ⟨rfl, rfl, by decide, by decide⟩

theorem witness_ArrivalChecksAnswerInOrder_middle :
    firstCheck section113Fenced 5 (ask 1 .read 0) = some (.retry, .portFenced) ∧
    firstCheck { online with partState := .draining } 5 (ask 1 .read 0) = some (.retry, .notOnline) ∧
    firstCheck online 5 { ask 1 .read 0 with context := 2 } = some (.refused, .badForm) ∧
    firstCheck online 5 (ask 1 .read 0x4000000) = some (.refused, .outOfRange) ∧
    firstCheck (nearQuota 4) 0 (ask 3 .read 0) = some (.refused, .tagInUse) := by decide +kernel

theorem witness_ArrivalChecksAnswerInOrder_quota :
    firstCheck (nearQuota 4) 0 (ask 9 .read 0) = some (.retry, .tableFull) ∧
    firstCheck (nearQuota 3) 0 (ask 9 .read 0) = none := by decide +kernel

theorem witness_ArrivalChecksAnswerInOrder_reserve :
    firstCheck (nearReserve 54) 0 (ask 9 .read 0) = some (.retry, .tableFull) ∧
    firstCheck (nearReserve 53) 0 (ask 9 .read 0) = none := by decide +kernel

/-- The conditions under which no arrival check applies, as AcceptedRequestBecomesAnEntry lists them. -/
def admissible (s : State) (p : Port) (m : Request) : Bool :=
  decide (s.ports[p].state = .active ∧ s.partState = .online) &&
  decide ((m.mask = none ∨ m.kind = .write) ∧ (m.line = none ↔ m.kind = .barrier) ∧ (m.context = 0 ∨ m.context = 1)) &&
  (match m.line with
   | none => true
   | some l => decide (l.toNat < 2 ^ s.config.memorySizeLog2 / 64)) &&
  decide (∀ e ∈ s.entries, ¬ (e.port = p ∧ e.portTag = m.portTag)) &&
  decide (s.entryCount p < s.config.ports[p].quota) &&
  decide (s.entries.length + 1 + (∑ q : Port,
    (if q ≠ p ∧ s.config.ports[q].enable = true ∧ s.ports[q].state = .active then 2 - s.entryCount q else 0)) ≤ 64)

theorem witness_AcceptedRequestBecomesAnEntry :
    section113.wires[(0 : Port)] = [] ∧ section113.ports[(0 : Port)].responses.length < 8 ∧
    admissible section113 0 (ask 9 .write 0x5E00) = true ∧
    admissible section113 0 { ask 9 .barrier 0 with line := none } = true ∧
    admissible online 0 { ask 9 .write 0x3FFFFFF with mask := some 0, context := 1 } = true := by decide +kernel

theorem witness_AcceptedRequest_bounds :
    admissible online 0 (ask 9 .read 0x4000000) = false ∧
    admissible (nearQuota 3) 0 (ask 9 .read 0) = true ∧ admissible (nearQuota 4) 0 (ask 9 .read 0) = false ∧
    admissible (nearReserve 53) 0 (ask 9 .read 0) = true ∧ admissible (nearReserve 54) 0 (ask 9 .read 0) = false := by
  decide +kernel

theorem witness_FullResponseQueueHoldsTheRequest :
    let s := { online with ports := online.ports.set 0 ⟨.active, List.replicate 8 okResponse⟩ }
    s.porAsserted = false ∧ 8 ≤ s.ports[(0 : Port)].responses.length := by decide

/-- A port whose response queue is full and one of whose entries waits ANSWERED. -/
def waiting : State :=
  { holding [entry 3 1 .read 0x10 (.answered .timeout 6)] with
    ports := online.ports.set 1 ⟨.active, List.replicate 8 okResponse⟩ }

theorem witness_DeliveryFreesAPlace :
    online.ports[(0 : Port)].responses = [] ∧
    section113.ports[(5 : Port)].responses = okResponse :: [okResponse] ∧
    (∀ e ∈ section113.entries, e.port = 5 → e.isAnswered = false) ∧
    waiting.ports[(1 : Port)].responses = okResponse :: List.replicate 7 okResponse ∧
    (∃ e ∈ waiting.entries, e.port = 1 ∧ e.isAnswered = true) ∧
    { waiting with partState := .draining }.partState = .draining := by decide

theorem witness_ArrivalLaw : ArrivalLaw section113 := by unfold ArrivalLaw; decide

theorem witness_PortReset :
    section113.porAsserted = false ∧ ArrivalLaw section113 ∧
    (∃ t, exec (.prstNAsserted 5) section113 = .next t ∧ ∃ x ∈ section113.entries, x.port = 5) ∧
    section113.guards[(1 : GuardNo)].ownedByPort 5 = true ∧
    (∃ x ∈ section113.entries, x.state = .deferred 1) ∧
    { (holding [entry 1 5 .read 0x10 .ready]) with partState := .draining }.entries ≠ [] :=
  ⟨rfl, witness_ArrivalLaw, ⟨_, rfl, by decide⟩, by decide, by decide, by decide⟩

theorem witness_ChecksRunOldestFirstUntilNoneIsDue :
    (∀ e ∈ online.releaseCauses.entries, online.releaseCauses.isDue e = false) ∧
    let s := holding [entry 1 0 .read 0x10 heldLine, entry 2 1 .read 0x20 heldLine]
    s.releaseCauses.entries.find? s.releaseCauses.isDue = some (entry 1 0 .read 0x10 heldLine) := by decide

/-- A STRICT port whose second entry carries PORT_ORDER for its first, which waits for another port's line. -/
def strictPort : State :=
  { holding [entry 1 1 .read 0x10 .ready, entry 2 0 .read 0x10 heldLine,
      entry 3 0 .read 0x20 (.held ⟨true, true, false⟩)] with
    config := { online.config with ports := online.config.ports.set 0 ⟨true, .strict, 16⟩ } }

theorem witness_ChecksRunOldestFirst_causes :
    entry 3 0 .read 0x20 (.held ⟨true, true, false⟩) ∈ strictPort.settle.entries ∧
    strictPort.settle.portOrderHolds (entry 3 0 .read 0x20 (.held ⟨true, true, false⟩)) = true ∧
    (entry 3 0 .read 0x20 (.held ⟨true, true, false⟩)).kind ≠ .barrier := by decide

theorem witness_LineHeadChecksDecide :
    let s := { online with faults := [⟨0x71C0, .writeError, 3⟩] }
    { entry 1 0 .barrier 0 (.held ⟨false, false, true⟩) with line := none }.line = none ∧
    (∃ f ∈ s.faults, f.line = 0x71C0) ∧ (∀ f ∈ s.faults, f.line ≠ 0x71C1) ∧
    (entry 1 0 .read 0x71C0 heldLine).line = some 0x71C0 ∧
    ¬ ((entry 1 0 .read 0x71C0 heldLine).kind = .write ∧ (entry 1 0 .read 0x71C0 heldLine).mask = none) ∧
    (entry 1 0 .write 0x71C0 heldLine).kind = .write ∧ (entry 1 0 .write 0x71C0 heldLine).mask = none ∧
    (entry 1 0 .writeConditional 0x71C1 heldLine).kind = .writeConditional := by decide

theorem witness_AnswerPlacesOrWaits :
    let e := entry 1 0 .read 0x10 (.answered .ok 4)
    let s (n : Nat) := { holding [e, entry 2 3 .read 0x10 .ready] with
      ports := online.ports.set 0 ⟨.active, List.replicate n okResponse⟩ }
    ArrivalLaw (s 7) ∧ e ∈ (s 7).entries ∧ e.state = .answered .ok 4 ∧ (s 7).ports[e.port].responses.length < 8 ∧
    ArrivalLaw (s 8) ∧ 8 ≤ (s 8).ports[e.port].responses.length ∧
    (s 7).entries.filter (fun x => x.arrival != e.arrival) ≠ [] ∧
    (holding [e]).entries.filter (fun x => x.arrival != e.arrival) = [] := by unfold ArrivalLaw; decide

theorem witness_JudgementDecidesTheRecord :
    let s (r : ReservationState) := { section113 with reservations := section113.reservations.set 10 ⟨r, 3⟩ }
    (∃ i, (s (.live 0x3C80 64)).reservations[(10 : Holder)].state = .live 0x3C80 i) ∧
    (∀ i, (s (.live 0x3C81 64)).reservations[(10 : Holder)].state ≠ .live 0x3C80 i) ∧
    (∀ i, (s .idle).reservations[(10 : Holder)].state ≠ .live 0x3C80 i) ∧
    ((s .idle).guards[(1 : GuardNo)] = .active 0x3C80 10 128 ∧
      ∀ k : GuardNo, k ≠ 1 → ∀ j, (s .idle).guards[k] ≠ .active 0x3C80 10 j) ∧
    (∀ (g : GuardNo) (i : Nat), online.guards[g] ≠ .active 0x3C80 10 i) ∧
    (section113.config.failureThreshold = 4 ∧ (s .idle).reservations[(10 : Holder)].failures + 1 = 4 ∧
      online.reservations[(10 : Holder)].failures + 1 ≠ 4) := by
  refine ⟨⟨64, rfl⟩, fun i h => ?_, fun i h => ?_, ⟨rfl, fun k hk j h => ?_⟩, fun g i h => ?_, by decide⟩
  · simp [section113, holding, online] at h
  · simp [section113, holding, online] at h
  · fin_cases k <;> simp [section113, holding, online] at h hk
  · fin_cases g <;> simp [online, State.reset] at h

/-- A guard table with g records ACTIVE, on lines 0 up. -/
def guardsHeld (g : Nat) : State :=
  { online with guards := Vector.ofFn fun i => if i.val < g then .active (BitVec.ofNat 34 i.val) 0 128 else .free }

theorem witness_EscalationGrantsOrRefuses :
    (∃ (g : GuardNo) (o : Holder) (i : Nat), section113.guards[g] = .active 0x5E00 o i) ∧
    (∀ (g : GuardNo) (o : Holder) (i : Nat), (guardsHeld 3).guards[g] ≠ .active 0x5E00 o i) ∧
    (guardsHeld 3).guards[(3 : GuardNo)] = .free ∧
    (∀ k : GuardNo, k < 3 → (guardsHeld 3).guards[k] ≠ .free) ∧
    (∀ (g : GuardNo) (o : Holder) (i : Nat), (guardsHeld 4).guards[g] ≠ .active 0x5E00 o i) ∧
    (∀ g : GuardNo, (guardsHeld 4).guards[g] ≠ .free) := by
  refine ⟨⟨0, 2, 128, rfl⟩, fun g o i h => ?_, by decide, by decide, fun g o i h => ?_, by decide⟩
  · fin_cases g <;> simp [guardsHeld] at h
  · fin_cases g <;> simp [guardsHeld] at h

theorem witness_GuardExpiryReleasesTheGuard :
    section113.porAsserted = false ∧ section113.guards[(3 : GuardNo)] = .free ∧
    section113.guards[(1 : GuardNo)] = .active 0x3C80 10 128 := by decide

theorem witness_BankMappingFollowsTheConfiguration :
    let c := { Configuration.powerOn with bankCount := .thirtyTwo, foldShift := 6, bankMapping := .folded }
    Configuration.powerOn.bankMapping = .linear ∧ c.bankMapping = .folded ∧
    16 = (match Configuration.powerOn.bankCount with | .eight => 8 | .sixteen => 16 | .thirtyTwo => 32) ∧
    32 = (match c.bankCount with | .eight => 8 | .sixteen => 16 | .thirtyTwo => 32) ∧
    6 ≤ c.foldShift ∧ (2 ^ 29 - 1) * 32 + 32 ≤ 2 ^ 34 ∧ (31 : BankNo).val < 32 := by decide

/-- Three READY entries on bank 0, the oldest with the given bypass count. -/
def contending (bypass : Nat) : State :=
  holding [{ entry 1 2 .read 0x1F40 .ready with bypass := bypass }, entry 2 0 .read 0x2040 .ready,
    entry 3 1 .read 0x2140 .ready]

theorem witness_ChoiceIsOldestOverdueElseByGrantOrder :
    ArrivalLaw (contending 8) ∧ GrantLaw (contending 8) ∧
    (contending 8).choice = some { entry 1 2 .read 0x1F40 .ready with bypass := 8 } ∧
    (∃ x ∈ (contending 8).candidates, x.bypass = (contending 8).config.bypassLimit) ∧
    (contending 7).choice = some (entry 2 0 .read 0x2040 .ready) ∧
    (∀ x ∈ (contending 7).candidates, x.bypass ≠ (contending 7).config.bypassLimit) ∧
    online.choice = none := by unfold ArrivalLaw GrantLaw; decide

theorem witness_NoDispatchWithoutTheFourConditions :
    (State.reset.partState ≠ .online ∧ State.reset.partState ≠ .draining) ∧ State.reset.link = .down ∧
    (∀ t : Tag, { contending 0 with tags := Vector.replicate 12 (.quarantined .read 0 0) }.tags[t] ≠ .free) ∧
    (let s := { contending 0 with banks := online.banks.set 0 (.recovering 4) }
     ∀ e ∈ s.entries, ∀ b : BankNo, e.state = .ready → s.bankOfEntry e = some b → s.banks[b] ≠ .idle) := by decide

theorem witness_DispatchBindsTheChosenEntry :
    let s := { contending 7 with tags := online.tags.set 0 (.quarantined .read 0 0) }
    let e := entry 2 0 .read 0x2040 .ready
    s.porAsserted = false ∧ (s.partState = .online ∨ s.partState = .draining) ∧ s.link = .up ∧
    s.tags[(1 : Tag)] = .free ∧ (∀ k : Tag, k < 1 → s.tags[k] ≠ .free) ∧ s.choice = some e ∧
    e.line = some 0x2040 := by decide

theorem witness_DispatchMovesThePortToTheTail :
    let s := contending 7
    let e := entry 2 0 .read 0x2040 .ready
    (∃ t : Tag, s.tags[t] = .free) ∧ s.choice = some e ∧ e.line = some 0x2040 ∧ GrantLaw s ∧
    s.grantOrder = [] ++ e.port :: [1, 2, 3, 4, 5] ∧
    { s with grantOrder := [1, 2, 3, 4, 5, 0] }.grantOrder = [1, 2, 3, 4, 5] ++ e.port :: [] := by
  unfold GrantLaw; decide

theorem witness_CompletionEndsTheBoundOperation :
    let e := entry 1 4 .write 0x5E00 (.issued 0)
    ArrivalLaw issuedWrite ∧ issuedWrite.tags[(0 : Tag)] = .busy e.arrival 1000 ∧ e ∈ issuedWrite.entries ∧
    e.line = some 0x5E00 ∧ e.kind ≠ .barrier ∧
    ¬ (CompletionOutcome.done = .dataError ∨ ((e.kind = .read ∨ e.kind = .readReserve) ∧ (none : Option Data) = none)) :=
  ⟨by unfold ArrivalLaw; decide, rfl, .head _, rfl, by decide, by decide⟩

theorem witness_OperationEndAnswersOrRemoves :
    (entry 1 4 .write 0x5E00 (.issued 0)).state = .issued 0 ∧
    (entry 1 5 .write 0x2A01 (.orphaned 3)).state = .orphaned 3 ∧
    section113Fenced.entries.filter (fun x => x.arrival != 1) ≠ [] ∧
    (holding [entry 1 5 .write 0x2A01 (.orphaned 3)]).entries.filter (fun x => x.arrival != 1) = [] ∧
    section113Fenced.ports[(5 : Port)].state = .fenced ∧
    (∃ x ∈ section113Fenced.entries, x.port = 5 ∧ x.isOrphaned = true) ∧
    (∀ x ∈ { section113Fenced with entries := [] }.entries, x.port = 5 → x.isOrphaned = false) ∧
    online.ports[(5 : Port)].state ≠ .fenced ∧ { online with partState := .draining }.partState = .draining ∧
    online.partState ≠ .draining := by decide

theorem witness_LateAndStrayCompletionsAreDiscarded :
    { online with tags := online.tags.set 11 (.quarantined .write 0x10 3) }.tags[(11 : Tag)] = .quarantined .write 0x10 3 ∧
    (∃ t : Tag, 11 = t.val ∧ online.tags[t] = .free) ∧ 12 ≤ 12 := by decide

theorem witness_TimeoutQuarantinesTheTag :
    (∀ n i, issuedWrite.tags[(11 : Tag)] ≠ .busy n i) ∧ ArrivalLaw issuedWrite ∧
    issuedWrite.tags[(0 : Tag)] = .busy 1 1000 ∧ entry 1 4 .write 0x5E00 (.issued 0) ∈ issuedWrite.entries := by
  refine ⟨fun n i h => ?_, ?_, rfl, .head _⟩
  · simp [issuedWrite, online, State.reset] at h
  · unfold ArrivalLaw; decide

/-- A fault list of n records, on lines 0 up. -/
def faulted (n : Nat) : State :=
  { online with faults := (List.range n).map fun i => ⟨BitVec.ofNat 34 i, .readError, 0⟩ }

theorem witness_FaultRecordingBreaksReservations :
    section113.reservations[(10 : Holder)].state = .live 0x3C80 64 ∧
    (∃ f ∈ (faulted 8).faults, f.line = 7) ∧
    ((∀ f ∈ (faulted 7).faults, f.line ≠ 7) ∧ (faulted 7).faults.length < 8) ∧
    ((∀ f ∈ (faulted 8).faults, f.line ≠ 8) ∧ 8 ≤ (faulted 8).faults.length) := by decide

theorem witness_LinkSignals :
    State.reset.link = .down ∧ issuedWrite.porAsserted = false ∧ issuedWrite.link = .up ∧ ArrivalLaw issuedWrite ∧
    ∃ e ∈ issuedWrite.entries, e.isIssued = true := by unfold ArrivalLaw; decide

/-- P4's write of 5E00h ISSUED on tag 0, and P5's READ_RESERVE of 1F41h ISSUED on tag 1 with its record LIVE there. -/
def issuedReserve : State :=
  { issuedWrite with
    entries := [entry 1 4 .write 0x5E00 (.issued 0), entry 2 5 .readReserve 0x1F41 (.issued 1)]
    tags := issuedWrite.tags.set 1 (.busy 2 1000), banks := issuedWrite.banks.set 1 (.busy 1)
    reservations := online.reservations.set 10 ⟨.live 0x1F41 64, 1⟩ }

theorem witness_LinkAbortEndsEveryOperation :
    issuedReserve.porAsserted = false ∧ issuedReserve.link = .up ∧ ArrivalLaw issuedReserve ∧
    (∃ e ∈ issuedReserve.entries, (e.isIssued || e.isOrphaned) = true ∧ e.kind = .write ∧ e.line = some 0x5E00) ∧
    (∃ e ∈ issuedReserve.entries, (e.isIssued || e.isOrphaned) = true ∧ e.kind = .readReserve ∧ e.line = some 0x1F41 ∧
      issuedReserve.reservations[holderOf e.port e.context].state = .live 0x1F41 64) := by unfold ArrivalLaw; decide

/-- R129, R30, R74: the record is broken, the write's line is recorded, and LINK_DOWN is the last notice. -/
theorem test_linkDown_breaks_the_record :
    seen .linkDown issuedReserve (fun s => (s.reservations[10], s.faults, s.notices.entries.map shown))
      = some (⟨.broken 0x1F41 .readFailed, 1⟩, [⟨0x5E00, .writeAborted, 4⟩],
          [⟨.faultRecorded, some 4, 1⟩, ⟨.linkDown, none, 1⟩]) := by decide

theorem witness_ReservationAndRecoveryTimersRunOut :
    section113.reservations[(10 : Holder)].state = .live 0x3C80 64 ∧
    (∀ l i, section113.reservations[(11 : Holder)].state ≠ .live l i) ∧
    { online with banks := online.banks.set 31 (.recovering 4) }.banks[(31 : BankNo)] = .recovering 4 ∧
    (∀ i, online.banks[(31 : BankNo)] ≠ .recovering i) := by
  refine ⟨rfl, fun l i h => ?_, rfl, fun i h => ?_⟩
  · simp [section113, holding, online, State.reset] at h
  · simp [online, State.reset] at h

theorem witness_GoOnlineByPartState :
    (∀ p : Port, State.reset.config.ports[p].enable = false) ∧ State.reset.partState = .offline ∧
    (∃ p : Port, online.config.ports[p].enable = true) ∧
    { online with partState := .quiesced }.partState = .quiesced ∧ online.partState = .online ∧
    { online with partState := .draining }.partState = .draining := by decide

theorem witness_DrainByPartState :
    (issuedWrite.partState = .online ∧ issuedWrite.entries ≠ []) ∧ (online.partState = .online ∧ online.entries = []) ∧
    State.reset.partState ≠ .online := by decide

theorem witness_PortResetCommandNamesItsPort :
    ((0x50000#24).extractLsb' 16 3).toNat = (5 : Port).val ∧ 6 ≤ ((0x60000#24).extractLsb' 16 3).toNat := by decide

theorem witness_ClearingAndUnknownCommands :
    let named (w : Word) : Line := (0#24).extractLsb' 0 2 ++ w
    (∃ f ∈ (faulted 8).faults, f.line = named 7) ∧ (∀ f ∈ (faulted 8).faults, f.line ≠ named 8) ∧
    ((8 : Byte) = 0 ∨ 8 ≤ (8 : Byte).toNat) := by decide

theorem witness_ConfigurationWriteDeniedWhole :
    online.partState = .online ∧
    ¬ (26 ≤ field 25 5 0 ∧ field 25 5 0 ≤ 40) ∧ ¬ (26 ≤ field 41 5 0 ∧ field 41 5 0 ≤ 40) ∧
    ¬ (4 ≤ field 0x300 13 8 ∧ field 0x300 13 8 ≤ 40) ∧ ¬ (4 ≤ field 0x2900 13 8 ∧ field 0x2900 13 8 ≤ 40) ∧
    field 0x803 1 0 = 3 ∧ ¬ (6 ≤ field 0x500 12 8 ∧ field 0x500 12 8 ≤ 20) ∧
    ¬ (6 ≤ field 0x1500 12 8 ∧ field 0x1500 12 8 ≤ 20) ∧
    field 0x10000 9 0 = 0 ∧ field 1 25 16 = 0 ∧ field 0x10000 15 0 = 0 ∧ field 0x100 4 0 = 0 ∧ field 1 11 8 = 0 := by
  decide

theorem witness_ConfigurationWriteTakenWhole :
    State.reset.partState = .offline ∧ { online with partState := .quiesced }.partState = .quiesced ∧
    (field 26 5 0 = 26 ∧ field 40 5 0 = 40) ∧ (field 0x400 13 8 = 4 ∧ field 0x2803 13 8 = 40) ∧
    (field 0x3F1412 1 0 ≠ 3 ∧ field 0x3F1412 12 8 = 20 ∧ field 0x600 1 0 ≠ 3 ∧ field 0x600 12 8 = 6) ∧
    (field 0x03FF0001 9 0 = 1 ∧ field 0x03FF0001 25 16 = 1023) ∧
    (field 1 15 0 = 1 ∧ field 0xFFFF 15 0 = 65535) ∧
    (field 0xF1F 4 0 = 31 ∧ field 0xF1F 11 8 = 15 ∧ field 0x101 4 0 = 1 ∧ field 0x101 11 8 = 1) ∧
    ConfigWord.banks ≠ .scheduling := by decide

theorem witness_OtherWritesStoreOrAreDenied :
    (field 0x1F04 2 0 = ReadOutClass.bank.code ∧ field 0x1F04 12 8 < ReadOutClass.bank.size) ∧ 5 ≤ field 5 2 0 ∧
    (∃ c : ReadOutClass, field 0x402 2 0 = c.code ∧ c.size ≤ field 0x402 12 8) ∧
    OtherWord.identification ≠ .lineArgument ∧ ((3 : Byte) ≠ 1 ∧ (3 : Byte) ≠ 2) ∧ 30 ≤ (30 : Byte).toNat :=
  ⟨by decide, by decide, ⟨.guard, by decide⟩, by decide, by decide, by decide⟩

theorem witness_NoticeReadsPopAndClear :
    let s := { online with notices := ⟨[⟨.guardRefused, some 2, 255, .refusedLine 0x300000040 .tableFull⟩], true, 0⟩ }
    online.notices.entries = [] ∧ s.porAsserted = false ∧ NoticeLaw s ∧
    s.notices.entries = ⟨.guardRefused, some 2, 255, .refusedLine 0x300000040 .tableFull⟩ :: [] ∧
    (Notice.headWord ⟨.guardRefused, some 2, 255, .refusedLine 0x300000040 .tableFull⟩ = 0x32FF0202) := by
  unfold NoticeLaw; decide

theorem witness_QuietReadsChangeNoBlock :
    ((17 : Byte) ≠ 16 ∧ (17 : Byte) ≠ 18) ∧ ((30 : Byte) ≠ 16 ∧ (30 : Byte) ≠ 18 ∧ 30 ≤ (30 : Byte).toNat) := by decide

theorem witness_FramesDecodeToTheirCommands :
    (Instr.unknownCommand 8 5).wellFormed = true ∧
    frameOf (.unknownCommand 8 5) = some [0x02, 0x02, 0x08, 0x00, 0x00, 0x05] ∧
    frameOf (.noticeHeadRead 2) = some [0x01, 0x10, 0x00, 0x00] ∧
    frameOf (.configurationWrite (.port 5) 0x2803) = some [0x02, 0x0B, 0x00, 0x00, 0x28, 0x03] ∧
    decodeFrame [0x02, 0x0B, 0x00, 0x00, 0x28, 0x03] = .command (.configurationWrite (.port 5) 0x2803) := by decide

theorem witness_FramesDecode_not_a_notice_read (n : Nat) :
    Instr.goOnline 0 ≠ .noticeHeadRead n ∧ Instr.goOnline 0 ≠ .noticeStatusRead n :=
  ⟨fun h => Instr.noConfusion h, fun h => Instr.noConfusion h⟩

theorem witness_CommandWordSelectsTheCommand :
    ([0, 0, 0] : List Byte).length < 4 ∧ (field 0x07000000 31 24 = 7 ∧ field 0x08000000 31 24 = 8) := by decide

theorem witness_PostCoalescesOrQueuesOrOverflows :
    let q (n : Nat) := (List.range n).map fun i => (⟨.faultRecorded, none, i + 1, .none⟩ : Notice)
    (0x3FFE#32).getLsbD NoticeKind.drainDone.code = true ∧ online.notices.mask.getLsbD NoticeKind.drainDone.code = false ∧
    (∃ n ∈ q 16, n.kind = .faultRecorded ∧ n.port = none) ∧
    (∀ n ∈ q 16, ¬ (n.kind = .drainDone ∧ n.port = none)) ∧ (q 15).length < 16 ∧ 16 ≤ (q 16).length := by decide

/-! ## A state that meets every law -/

/-- P4's write of 5E00h ISSUED on tag 0, bank 0, with an orphan of P5 on tag 3, bank 1, a fault and a notice. -/
def lawful : State :=
  { holding [entry 1 5 .write 0x2A01 (.orphaned 3), entry 2 4 .write 0x5E00 (.issued 0)] with
    ports := online.ports.set 5 ⟨.fenced, []⟩
    tags := (online.tags.set 0 (.busy 2 1000)).set 3 (.busy 1 1000)
    banks := (online.banks.set 0 (.busy 0)).set 1 (.busy 3)
    faults := [⟨0x10, .readError, 0⟩]
    notices := ⟨[⟨.faultRecorded, some 0, 1, .line 0x10⟩], false, 0⟩
    pending := [.completion ⟨0, .done, none⟩] }

theorem witness_lawful_steps : ∃ t, step lawful = .next t := ⟨_, rfl⟩

theorem witness_lawful_collections : NoticeLaw lawful ∧ FaultLaw lawful ∧ ResponseLaw lawful ∧ GrantLaw lawful := by
  unfold NoticeLaw FaultLaw ResponseLaw GrantLaw; decide

theorem witness_lawful_configuration : ConfigurationLaw lawful ∧ FailureLaw lawful := by
  unfold ConfigurationLaw FailureLaw; decide

theorem witness_lawful_table :
    TableLaw lawful ∧ ArrivalLaw lawful ∧ PortTagLaw lawful ∧ LineLaw lawful ∧ KindLaw lawful ∧ FenceLaw lawful := by
  unfold TableLaw ArrivalLaw PortTagLaw LineLaw KindLaw FenceLaw; decide

/-- The same part with two reads of P1 HELD behind the orphan, the younger under PORT_ORDER at a STRICT port. -/
def lawfulHeld : State :=
  { lawful with
    entries := lawful.entries ++
      [entry 3 1 .read 0x2A01 heldLine, entry 4 1 .read 0x20 (.held ⟨true, true, false⟩)]
    config := { online.config with ports := online.config.ports.set 1 ⟨true, .strict, 16⟩ } }

theorem witness_lawfulHeld_steps : ∃ t, step lawfulHeld = .next t := ⟨_, rfl⟩

theorem witness_lawful_nothing_due : TableLaw lawfulHeld ∧ ArrivalLaw lawfulHeld ∧ NothingDueLaw lawfulHeld := by
  refine ⟨by unfold TableLaw; decide, by unfold ArrivalLaw; decide, by decide, fun e he c hc _ => ?_⟩
  simp only [lawfulHeld, lawful, holding, List.cons_append, List.nil_append, List.mem_cons, List.not_mem_nil,
    or_false] at he
  rcases he with rfl | rfl | rfl | rfl <;> simp [entry, heldLine] at hc <;> subst hc <;> rfl

theorem witness_lawful_bypass : TableLaw lawfulHeld ∧ BypassLaw lawfulHeld ∧ BypassLaw (contending 8) := by
  unfold TableLaw BypassLaw; decide

/-- The laws that ChecksRunOldestFirstUntilNoneIsDue asks for hold of a part with two HELD reads of one line, of which the
older is due, and with two BARRIERs, one of them behind an entry of its port. -/
theorem witness_ChecksRunOldestFirst_due :
    let b (n : Nat) (p : Port) := { entry n p .barrier 0 (.held ⟨false, false, true⟩) with line := none }
    let s := holding [entry 1 0 .read 0x10 heldLine, entry 2 1 .read 0x10 heldLine, b 3 2, b 4 1]
    ArrivalLaw s ∧ KindLaw s ∧ s.entries.map s.isDue = [true, false, true, false] := by
  unfold ArrivalLaw KindLaw; decide

theorem witness_lawful_guards : GuardLaw lawful := by
  refine ⟨fun g g' l h _ => ?_, fun e he g h => ?_⟩
  · fin_cases g <;> simp [lawful, holding, online, State.reset, GuardRecord.guards] at h
  · simp [lawful, holding, entry] at he
    rcases he with rfl | rfl <;> simp at h

theorem witness_lawful_tags : TagLaw lawful ∧ LinkLaw lawful := by
  refine ⟨⟨fun t n i h => ?_, fun e he t h => ?_⟩, fun h => ?_⟩
  · fin_cases t <;> simp [lawful, online, State.reset] at h <;> simp [lawful, holding, entry, ← h.1]
  · simp [lawful, holding, entry] at he
    rcases he with rfl | rfl <;> simp at h <;> subst h <;> exact ⟨1000, rfl⟩
  · simp [lawful, holding, online] at h

theorem witness_lawful_banks : BankLaw lawful := by unfold BankLaw; decide

theorem witness_ReadOutShowsTheSelectedRecord :
    let s (c : ReadOutClass) (n : BitVec 5) := { lawful with mgmt := { lawful.mgmt with selectorClass := c, selectorIndex := n } }
    ((s .tag 3).mgmt.selectorClass = .tag ∧ (s .tag 3).mgmt.selectorIndex.toNat = (3 : Tag).val) ∧
    (s .reservation 11).mgmt.selectorIndex.toNat = (11 : Holder).val ∧
    (s .guard 3).mgmt.selectorIndex.toNat = (3 : GuardNo).val ∧
    (s .fault 0).faults[(s .fault 0).mgmt.selectorIndex.toNat]? = some ⟨0x10, .readError, 0⟩ ∧
    (s .fault 7).faults[(s .fault 7).mgmt.selectorIndex.toNat]? = none ∧
    (s .bank 31).mgmt.selectorIndex.toNat = (31 : BankNo).val := by decide

theorem witness_ReadOut_record_states :
    lawful.tags[(11 : Tag)] = .free ∧
    { lawful with tags := lawful.tags.set 11 (.quarantined .write 0x10 3) }.tags[(11 : Tag)] = .quarantined .write 0x10 3 ∧
    entry 1 5 .write 0x2A01 (.orphaned 3) ∈ lawful.entries ∧ lawful.reservations[(11 : Holder)].state = .idle ∧
    section113.reservations[(10 : Holder)].state = .live 0x3C80 64 ∧
    { lawful with reservations := lawful.reservations.set 11 ⟨.broken 0x10 .fault, 4⟩ }.reservations[(11 : Holder)].state
      = .broken 0x10 .fault ∧
    lawful.guards[(3 : GuardNo)] = .free ∧ section113.guards[(1 : GuardNo)] = .active 0x3C80 10 128 ∧
    lawful.banks[(1 : BankNo)] = .busy 3 ∧ lawful.banks[(31 : BankNo)] = .idle :=
  ⟨rfl, rfl, .head _, rfl, rfl, rfl, rfl, rfl, rfl, rfl⟩

/-- R171: tag 3 is BUSY with P5's orphan: state 1, port 5, bit 8. R167: word 25 shows tags 0 and 3 BUSY, words 26 and 27
banks 0 and 1 BUSY. -/
theorem test_read_outs :
    { lawful with mgmt := { lawful.mgmt with selectorClass := .tag, selectorIndex := 3 } }.wordAt 21 = 0x151 ∧
    { lawful with mgmt := { lawful.mgmt with selectorClass := .tag, selectorIndex := 3 } }.wordAt 22 = 0x2A01 ∧
    lawful.wordAt 25 = 0x41 ∧ lawful.wordAt 26 = 0x5 ∧ lawful.wordAt 27 = 0 := by decide

end Sys2Proof.Tests
end

/-! # The pending request table at work (01_the_pending_request_table.md)

What a check, an answer, a guard's release, a port reset and a dispatch do to the entries is said once, as a relation
between an entry and what becomes of it. The laws of the table are carried along such moves, through the checks of a
happening, and from there through every command. -/

section
namespace Sys2Proof.Machine

open Sys2Proof

/-! ## The states of an entry, in the order in which an entry passes through them -/

theorem Entry.isDeferred_iff (e : Entry) : e.isDeferred = true ↔ ∃ g, e.state = .deferred g := by
  unfold Entry.isDeferred; split <;> simp_all

theorem Entry.isHeld_iff (e : Entry) : e.isHeld = true ↔ ∃ c, e.state = .held c := by
  unfold Entry.isHeld; split <;> simp_all

theorem Entry.isIssued_iff (e : Entry) : e.isIssued = true ↔ ∃ t, e.state = .issued t := by
  unfold Entry.isIssued; split <;> simp_all

theorem Entry.isOrphaned_iff (e : Entry) : e.isOrphaned = true ↔ ∃ t, e.state = .orphaned t := by
  unfold Entry.isOrphaned; split <;> simp_all

theorem Entry.isAnswered_iff (e : Entry) : e.isAnswered = true ↔ ∃ st n, e.state = .answered st n := by
  unfold Entry.isAnswered; split <;> simp_all

/-- How far an entry has come: no operation of the table takes an entry back (R5). -/
def Entry.phase (e : Entry) : Nat :=
  match e.state with
  | .deferred _ => 0
  | .held _ => 1
  | .ready => 2
  | .issued _ => 3
  | .orphaned _ => 4
  | .answered _ _ => 5

theorem Entry.isHeld_iff_phase (e : Entry) : e.isHeld = true ↔ e.phase = 1 := by
  unfold Entry.isHeld Entry.phase; cases e.state <;> simp

theorem Entry.isAnswered_iff_phase (e : Entry) : e.isAnswered = true ↔ e.phase = 5 := by
  unfold Entry.isAnswered Entry.phase; cases e.state <;> simp

theorem Entry.isUnderWay_iff_phase (e : Entry) : e.isUnderWay = true ↔ 2 ≤ e.phase ∧ e.phase ≤ 4 := by
  unfold Entry.isUnderWay Entry.phase; cases e.state <;> simp

theorem Entry.isOutstanding_iff_phase (e : Entry) : e.isOutstanding = true ↔ e.phase = 3 ∨ e.phase = 4 := by
  unfold Entry.isOutstanding Entry.isIssued Entry.isOrphaned Entry.phase; cases e.state <;> simp

theorem Entry.parked_iff_phase (e : Entry) : (e.isDeferred = true ∨ e.isHeld = true) ↔ e.phase ≤ 1 := by
  unfold Entry.isDeferred Entry.isHeld Entry.phase; cases e.state <;> simp

theorem Entry.waits_iff_phase (e : Entry) :
    (e.isDeferred = true ∨ e.isHeld = true ∨ e.state = .ready) ↔ e.phase ≤ 2 := by
  unfold Entry.isDeferred Entry.isHeld Entry.phase; cases e.state <;> simp

theorem Entry.phase_le (e : Entry) : e.phase ≤ 5 := by unfold Entry.phase; cases e.state <;> simp

/-- The bound that a check lowers counts down the phases before READY. -/
theorem Entry.weight_eq (e : Entry) : e.weight = 2 - e.phase := by
  unfold Entry.weight Entry.phase; cases e.state <;> rfl

@[simp] theorem Entry.answer_phase (e : Entry) (st : Status) (d : Option Data) (k : Nat) : (e.answer st d k).phase = 5 := rfl

/-! ## What becomes of the entries of a table -/

/-- The entries fs are what became of the entries es: `R` relates each entry to what it became, or to none if it left. -/
def Evolves (R : Entry → Option Entry → Prop) (es fs : List Entry) : Prop :=
  ∃ f : Entry → Option Entry, fs = es.filterMap f ∧ ∀ x ∈ es, R x (f x)

/-- Every entry that stays is related by `R` to what it was; any entry may leave. -/
def Each (R : Entry → Entry → Prop) (x : Entry) (o : Option Entry) : Prop := ∀ y, o = some y → R x y

theorem Each.some {R : Entry → Entry → Prop} {x y : Entry} (h : R x y) : Each R x (some y) := by
  rintro _ ⟨⟩; exact h

theorem Each.none {R : Entry → Entry → Prop} {x : Entry} : Each R x none := by rintro _ ⟨⟩

namespace Evolves

variable {R S T : Entry → Option Entry → Prop} {es fs gs : List Entry}

theorem mono (h : Evolves R es fs) (hRS : ∀ x ∈ es, ∀ o, R x o → S x o) : Evolves S es fs := by
  obtain ⟨f, rfl, hf⟩ := h
  exact ⟨f, rfl, fun x hx => hRS x hx _ (hf x hx)⟩

theorem map (f : Entry → Entry) (h : ∀ x ∈ es, R x (some (f x))) : Evolves R es (es.map f) :=
  ⟨some ∘ f, by rw [List.filterMap_eq_map], h⟩

theorem filter (q : Entry → Bool) (h : ∀ x ∈ es, if q x then R x (some x) else R x none) : Evolves R es (es.filter q) := by
  refine ⟨Option.guard q, by rw [← List.filterMap_eq_filter], fun x hx => ?_⟩
  have := h x hx
  unfold Option.guard
  split <;> simp_all

theorem refl (h : ∀ x ∈ es, R x (some x)) : Evolves R es es := by simpa using Evolves.map id h

/-- Two moves in a row. -/
theorem trans (h : Evolves R es fs) (k : Evolves S fs gs) (hnone : ∀ x, R x none → T x none)
    (hsome : ∀ x y o, R x (some y) → S y o → T x o) : Evolves T es gs := by
  obtain ⟨f, rfl, hf⟩ := h
  obtain ⟨g, rfl, hg⟩ := k
  refine ⟨fun x => (f x).bind g, List.filterMap_filterMap, fun x hx => ?_⟩
  dsimp only
  cases hfx : f x with
  | none => exact hnone x (hfx ▸ hf x hx)
  | some y => exact hsome x y _ (hfx ▸ hf x hx) (hg y (List.mem_filterMap.mpr ⟨x, hx, hfx⟩))

theorem mem (h : Evolves R es fs) {y : Entry} (hy : y ∈ fs) : ∃ x ∈ es, R x (some y) := by
  obtain ⟨f, rfl, hf⟩ := h
  obtain ⟨x, hx, hxy⟩ := List.mem_filterMap.mp hy
  exact ⟨x, hx, hxy ▸ hf x hx⟩

theorem pairwise {P Q : Entry → Entry → Prop} (h : Evolves R es fs) (hP : es.Pairwise P)
    (hPQ : ∀ a ∈ es, ∀ b ∈ es, ∀ a' b', P a b → R a (some a') → R b (some b') → Q a' b') : fs.Pairwise Q := by
  obtain ⟨f, rfl, hf⟩ := h
  rw [List.pairwise_filterMap]
  refine hP.imp_of_mem fun {a b} ha hb hab a' ha' b' hb' => ?_
  exact hPQ a ha b hb a' b' hab (ha' ▸ hf a ha) (hb' ▸ hf b hb)

theorem length_le (h : Evolves R es fs) : fs.length ≤ es.length := by
  obtain ⟨f, rfl, -⟩ := h
  exact List.length_filterMap_le f es

/-- Entries that answer to `q` come from such entries, so there are no more of them. -/
theorem count_le (h : Evolves R es fs) (q : Entry → Bool) (hq : ∀ x y, R x (some y) → q y = true → q x = true) :
    (fs.filter q).length ≤ (es.filter q).length := by
  obtain ⟨f, rfl, hf⟩ := h
  rw [← List.countP_eq_length_filter, ← List.countP_eq_length_filter, List.countP_filterMap]
  refine List.countP_mono_left fun x hx hfx => ?_
  cases hxy : f x with
  | none => simp [hxy] at hfx
  | some y => exact hq x y (hxy ▸ hf x hx) (by simpa [hxy] using hfx)

/-- Entries that answer to `q` before or after, and never change nor leave, are the same before and after. -/
theorem filter_eq (h : Evolves R es fs) (q : Entry → Bool)
    (hq : ∀ x ∈ es, ∀ o, R x o → (q x = true → o = some x) ∧ ∀ y, o = some y → q y = true → q x = true) :
    fs.filter q = es.filter q := by
  obtain ⟨f, rfl, hf⟩ := h
  induction es with
  | nil => rfl
  | cons x es ih =>
    obtain ⟨hstay, hnew⟩ := hq x (List.mem_cons_self ..) _ (hf x (List.mem_cons_self ..))
    have ih := ih (fun x hx => hq x (List.mem_cons_of_mem _ hx)) (fun x hx => hf x (List.mem_cons_of_mem _ hx))
    cases hx : q x with
    | true => rw [List.filterMap_cons_some (hstay hx), List.filter_cons_of_pos hx, List.filter_cons_of_pos hx, ih]
    | false =>
      rw [List.filter_cons_of_neg (by simp [hx])]
      cases hfx : f x with
      | none => rw [List.filterMap_cons_none hfx, ih]
      | some y =>
        have hy : ¬ q y = true := fun hy => by simp [hnew y hfx hy] at hx
        rw [List.filterMap_cons_some hfx, List.filter_cons_of_neg hy, ih]

/-- A measure that no move raises, and that a move of one entry lowers, has a lower sum. -/
theorem sum_lt (h : Evolves R es fs) (w : Entry → Nat) (hw : ∀ x ∈ es, ∀ y, R x (some y) → w y ≤ w x)
    {e : Entry} (he : e ∈ es) (hlt : ∀ o, R e o → (o.map w).getD 0 < w e) :
    (fs.map w).sum < (es.map w).sum := by
  obtain ⟨f, rfl, hf⟩ := h
  have hsum : ∀ l : List Entry, ((l.filterMap f).map w).sum = (l.map fun x => ((f x).map w).getD 0).sum := by
    intro l
    induction l with
    | nil => rfl
    | cons x l ih => cases hx : f x <;> simp [hx, ih]
  rw [hsum]
  refine List.sum_lt_sum _ _ (fun x hx => ?_) ⟨e, he, hlt _ (hf e he)⟩
  cases hxy : f x with
  | none => simp
  | some y => exact hw x hx y (hxy ▸ hf x hx)

end Evolves

end Sys2Proof.Machine
end

section
namespace Sys2Proof.Machine

open Sys2Proof

/-! ## Changes that leave the table alone, and moves of the table -/

/-- From s to t the entries, the configuration and the next place in the arrival order stay, and the part does not come to
OFFLINE or QUIESCED. -/
structure SameTable (s t : State) : Prop where
  entries : t.entries = s.entries
  config : t.config = s.config
  nextArrival : t.nextArrival = s.nextArrival
  stopped : t.takesConfiguration = true → s.takesConfiguration = true

/-- From s to t the entries evolve by `R`; the part comes to OFFLINE or QUIESCED only with an emptied table. -/
structure TableMoves (R : Entry → Option Entry → Prop) (s t : State) : Prop where
  config : t.config = s.config
  nextArrival : t.nextArrival = s.nextArrival
  stopped : t.takesConfiguration = true → s.takesConfiguration = true ∨ t.entries = []
  entries : Evolves R s.entries t.entries

theorem Evolves.eq_nil {R : Entry → Option Entry → Prop} {fs : List Entry} (h : Evolves R [] fs) : fs = [] := by
  obtain ⟨f, rfl, -⟩ := h
  rfl

theorem SameTable.refl (s : State) : SameTable s s := ⟨rfl, rfl, rfl, id⟩

/-- A change that keeps the part state too. -/
theorem SameTable.of_eq {s t : State} (he : t.entries = s.entries) (hc : t.config = s.config)
    (hn : t.nextArrival = s.nextArrival) (hp : t.partState = s.partState) : SameTable s t :=
  ⟨he, hc, hn, by simp [State.takesConfiguration, hp]⟩

theorem SameTable.trans {s t u : State} (h : SameTable s t) (k : SameTable t u) : SameTable s u :=
  ⟨k.entries.trans h.entries, k.config.trans h.config, k.nextArrival.trans h.nextArrival, fun hu => h.stopped (k.stopped hu)⟩

namespace TableMoves

variable {R S T : Entry → Option Entry → Prop} {s t u : State}

theorem mono (h : TableMoves R s t) (hRS : ∀ x ∈ s.entries, ∀ o, R x o → S x o) : TableMoves S s t :=
  ⟨h.config, h.nextArrival, h.stopped, h.entries.mono hRS⟩

theorem of_same (h : SameTable s t) (hR : ∀ x ∈ s.entries, R x (some x)) : TableMoves R s t :=
  ⟨h.config, h.nextArrival, fun ht => .inl (h.stopped ht), by rw [h.entries]; exact .refl hR⟩

theorem after_same (h : SameTable s t) (k : TableMoves R t u) : TableMoves R s u :=
  ⟨k.config.trans h.config, k.nextArrival.trans h.nextArrival, fun hu => (k.stopped hu).imp_left h.stopped,
    h.entries ▸ k.entries⟩

theorem same (h : TableMoves R s t) (k : SameTable t u) : TableMoves R s u :=
  ⟨k.config.trans h.config, k.nextArrival.trans h.nextArrival,
    fun hu => by rw [k.entries]; exact h.stopped (k.stopped hu), k.entries ▸ h.entries⟩

theorem trans (h : TableMoves R s t) (k : TableMoves S t u) (hnone : ∀ x, R x none → T x none)
    (hsome : ∀ x y o, R x (some y) → S y o → T x o) : TableMoves T s u := by
  refine ⟨k.config.trans h.config, k.nextArrival.trans h.nextArrival, fun hu => ?_, h.entries.trans k.entries hnone hsome⟩
  rcases k.stopped hu with ht | hu
  · exact (h.stopped ht).imp_right fun ht => (ht ▸ k.entries).eq_nil
  · exact .inr hu

/-- Moves in a row, for a relation that only speaks of the entries that stay. -/
theorem trans_each {P : Entry → Entry → Prop} (hP : ∀ x y z, P x y → P y z → P x z) (h : TableMoves (Each P) s t)
    (k : TableMoves (Each P) t u) : TableMoves (Each P) s u :=
  h.trans k (fun _ _ => Each.none) fun x y _ hxy hyo z hz => hP x y z (hxy y rfl) (hyo z hz)

end TableMoves

/-! ## The moves of each operation -/

/-- What an answer at place n of the arrival order makes of entry x: at that place it is answered, or has left. -/
inductive AnsweredAt (n : Nat) (x : Entry) : Option Entry → Prop
  | leaves : x.arrival = n → AnsweredAt n x none
  | answered (st : Status) (d : Option Data) (k : Nat) : x.arrival = n → AnsweredAt n x (some (x.answer st d k))
  | stays : x.arrival ≠ n → AnsweredAt n x (some x)

/-- What a passed check at place n makes of entry x. -/
inductive ReadyAt (n : Nat) (x : Entry) : Option Entry → Prop
  | ready : x.arrival = n → ReadyAt n x (some { x with state := .ready })
  | stays : x.arrival ≠ n → ReadyAt n x (some x)

/-- What the release of a guard in s makes of entry x: a DEFERRED one may rejoin its line queue, with its causes found
afresh. -/
inductive State.Rejoins (s : State) (x : Entry) : Option Entry → Prop
  | stays : s.Rejoins x (some x)
  | rejoins (g : GuardNo) : x.state = .deferred g → s.Rejoins x (some { x with state := .held (s.causesNow x) })

/-- What the check of entry e, or its answer, makes of entry x of s: one at e's place leaves, is answered, or becomes READY
if e has a line; of the others only DEFERRED ones change, by rejoining their line queue. -/
inductive State.Examined (s : State) (e x : Entry) : Option Entry → Prop
  | leaves : x.arrival = e.arrival → s.Examined e x none
  | answered (st : Status) (d : Option Data) (k : Nat) :
      x.arrival = e.arrival → s.Examined e x (some (x.answer st d k))
  | ready : x.arrival = e.arrival → e.line ≠ none → s.Examined e x (some { x with state := .ready })
  | stays : x.arrival ≠ e.arrival → s.Examined e x (some x)
  | rejoins (g : GuardNo) : x.arrival ≠ e.arrival → x.state = .deferred g →
      s.Examined e x (some { x with state := .held (s.causesNow x) })

/-- What the placing of the response at place n makes of entry x. -/
inductive PlacedAt (n : Nat) (x : Entry) : Option Entry → Prop
  | leaves : x.arrival = n → PlacedAt n x none
  | stays : PlacedAt n x (some x)

theorem setReservation_same (s : State) (h : Holder) (r : Reservation) : SameTable s (s.setReservation h r) :=
  .of_eq rfl rfl rfl rfl

theorem post_same (s : State) (k : NoticeKind) (p : Option Port) (d : Detail) : SameTable s (s.post k p d) :=
  .of_eq rfl rfl rfl rfl

theorem placeResponse_same (s : State) (p : Port) (r : Response) : SameTable s (s.placeResponse p r) :=
  .of_eq rfl rfl rfl rfl

theorem escalate_same (s : State) (h : Holder) (l : Line) : SameTable s (s.escalate h l) := by
  rcases s.escalate_cases h l with ⟨why, he⟩ | ⟨g, -, -, he⟩ <;> rw [he]
  · exact post_same s _ _ _
  · exact .of_eq rfl rfl rfl rfl

theorem endFencing_same (s : State) (p : Port) : SameTable s (s.endFencing p) :=
  .of_eq (by simp) (by simp) (by simp) (by simp)

@[simp] theorem State.removeEntries_entries (s : State) (gone : Entry → Bool) :
    (s.removeEntries gone).entries = s.entries.filter (fun e => !gone e) := by
  rcases s.removeEntries_cases gone with h | ⟨hk, h⟩ <;> rw [h]
  · rfl
  · simp [hk]

theorem setEntries_moves {R : Entry → Option Entry → Prop} {s : State} {es : List Entry} (h : Evolves R s.entries es) :
    TableMoves R s (s.setEntries es) :=
  ⟨rfl, rfl, fun ht => .inl ht, h⟩

/-- The entries for which `gone` holds leave; the report of emptiness comes only with an empty table (R25). -/
theorem removeEntries_moves (s : State) (gone : Entry → Bool) :
    TableMoves (fun x o => if gone x then o = none else o = some x) s (s.removeEntries gone) where
  config := (removeEntries_tableOnly s gone).config
  nextArrival := (removeEntries_tableOnly s gone).nextArrival
  stopped ht := by
    rcases s.removeEntries_cases gone with h | ⟨hk, -⟩
    · rw [h] at ht; exact .inl ht
    · exact .inr (by simp [hk])
  entries := by
    rw [State.removeEntries_entries]
    exact .filter _ fun x _ => by by_cases h : gone x = true <;> simp [h]

theorem markAnswered_moves (s : State) (n : Nat) (st : Status) (d : Option Data) :
    TableMoves (AnsweredAt n) s (s.markAnswered n st d) where
  config := rfl
  nextArrival := rfl
  stopped ht := .inl ht
  entries := .map _ fun x _ => by
    split
    · exact .answered st d s.nextAnswer ‹_›
    · exact .stays ‹_›

/-- The placing of an entry's response takes the entries at its place out of the table. -/
theorem placeEntry_moves (s : State) (e : Entry) : TableMoves (PlacedAt e.arrival) s (s.placeEntry e) := by
  unfold State.placeEntry
  split
  · refine .after_same (placeResponse_same s _ _) ((removeEntries_moves _ _).mono fun x _ o h => ?_)
    split at h <;> subst h
    · exact .leaves (by simp_all)
    · exact .stays
  all_goals exact .of_same (.refl s) fun x _ => .stays

theorem placeIfRoom_moves (s : State) (n : Nat) : TableMoves (PlacedAt n) s (s.placeIfRoom n) := by
  unfold State.placeIfRoom
  split
  · exact .of_same (.refl s) fun x _ => .stays
  · rename_i e he
    have hn : e.arrival = n := by simpa using List.find?_some he
    split
    · exact hn ▸ placeEntry_moves s e
    · exact .of_same (.refl s) fun x _ => .stays

/-- An answer waits, or its response is then placed. -/
theorem AnsweredAt.placed {n : Nat} {x y : Entry} {o : Option Entry} (h : AnsweredAt n x (some y))
    (k : PlacedAt n y o) : AnsweredAt n x o := by
  cases k with
  | stays => exact h
  | leaves hy =>
    cases h with
    | answered st d k hx => exact .leaves hx
    | stays hx => exact (hx hy).elim

theorem answer_moves (s : State) (n : Nat) (st : Status) (d : Option Data) :
    TableMoves (AnsweredAt n) s (s.answer n st d) :=
  (markAnswered_moves s n st d).trans (placeIfRoom_moves _ n) (fun _ h => h) fun _ _ _ => .placed

theorem releaseGuard_moves (s : State) (g : GuardNo) : TableMoves s.Rejoins s (s.releaseGuard g) where
  config := rfl
  nextArrival := rfl
  stopped ht := .inl ht
  entries := .map _ fun x _ => by
    split
    · exact .rejoins g ‹_›
    · exact .stays

theorem makeReady_moves (s : State) (e : Entry) : TableMoves (ReadyAt e.arrival) s (s.makeReady e) :=
  setEntries_moves (.map _ fun x _ => by
    split
    · exact .ready ‹_›
    · exact .stays ‹_›)

theorem AnsweredAt.examined {s : State} {e x : Entry} {o : Option Entry} (h : AnsweredAt e.arrival x o) :
    s.Examined e x o := by
  cases h with
  | leaves hx => exact .leaves hx
  | answered st d k hx => exact .answered st d k hx
  | stays hx => exact .stays hx

theorem ReadyAt.examined {s : State} {e x : Entry} {o : Option Entry} (hl : e.line ≠ none)
    (h : ReadyAt e.arrival x o) : s.Examined e x o := by
  cases h with
  | ready hx => exact .ready hx hl
  | stays hx => exact .stays hx

/-- Entries rejoin in u, which finds the causes of s, and then the one at e's place is answered. -/
theorem State.Rejoins.answered {s u : State} {e x y : Entry} {o : Option Entry} (hu : u.causesNow = s.causesNow)
    (h : u.Rejoins x (some y)) (k : AnsweredAt e.arrival y o) : s.Examined e x o := by
  cases h with
  | stays => exact k.examined
  | rejoins g hg =>
    cases k with
    | leaves hy => exact .leaves hy
    | answered st d k hy => exact .answered (x := x) st d k hy
    | stays hy => exact hu ▸ .rejoins g hy hg

/-- Entries rejoin in u, which finds the causes of s, and then the one at e's place becomes READY. -/
theorem State.Rejoins.ready {s u : State} {e x y : Entry} {o : Option Entry} (hu : u.causesNow = s.causesNow)
    (hl : e.line ≠ none) (h : u.Rejoins x (some y)) (k : ReadyAt e.arrival y o) : s.Examined e x o := by
  cases h with
  | stays => exact k.examined hl
  | rejoins g hg =>
    cases k with
    | ready hy => exact .ready (x := x) hy hl
    | stays hy => exact hu ▸ .rejoins g hy hg

theorem passJudgement_moves (s : State) (e : Entry) (l : Line) (hl : e.line ≠ none) :
    TableMoves (s.Examined e) s (s.passJudgement e l) := by
  refine .after_same (setReservation_same s (holderOf e.port e.context) ⟨.idle, 0⟩) ?_
  unfold State.passJudgement
  dsimp only
  split
  · exact (releaseGuard_moves _ _).trans (makeReady_moves _ e) (fun _ h => nomatch h)
      fun _ _ _ => State.Rejoins.ready rfl hl
  · exact (makeReady_moves _ e).mono fun _ _ _ => ReadyAt.examined hl

theorem failAsOwner_moves (s : State) (e : Entry) (g : GuardNo) :
    TableMoves (s.Examined e) s (s.failAsOwner e g) :=
  .after_same (setReservation_same s (holderOf e.port e.context) _)
    ((releaseGuard_moves _ g).trans (answer_moves _ _ _ _) (fun _ h => nomatch h)
      fun _ _ _ => State.Rejoins.answered rfl)

theorem failJudgement_moves (s : State) (e : Entry) (l : Line) :
    TableMoves (AnsweredAt e.arrival) s (s.failJudgement e l) := by
  have hmark := (markAnswered_moves s e.arrival .failed none).same (setReservation_same _ (holderOf e.port e.context)
    ⟨s.reservations[holderOf e.port e.context].state.afterFailure,
      raisedFailures s.config s.reservations[holderOf e.port e.context].failures⟩)
  unfold State.failJudgement
  dsimp only
  split
  · exact (hmark.same (escalate_same _ _ _)).trans (placeIfRoom_moves _ _) (fun _ h => h) fun _ _ _ => .placed
  · exact hmark.trans (placeIfRoom_moves _ _) (fun _ h => h) fun _ _ _ => .placed

theorem judge_moves (s : State) (e : Entry) (l : Line) (hl : e.line ≠ none) :
    TableMoves (s.Examined e) s (s.judge e l) := by
  unfold State.judge
  dsimp only
  split
  · exact passJudgement_moves s e l hl
  · split
    · exact failAsOwner_moves s e _
    · exact (failJudgement_moves s e l).mono fun _ _ _ => AnsweredAt.examined

/-- What is due for an entry moves the table as `Examined` says. -/
theorem examine_moves (s : State) (e : Entry) : TableMoves (s.Examined e) s (s.examine e) := by
  unfold State.examine
  split
  · exact (answer_moves s _ _ _).mono fun _ _ _ => AnsweredAt.examined
  · rename_i l hl
    have hl : e.line ≠ none := by simp [hl]
    split
    · exact (answer_moves s _ _ _).mono fun _ _ _ => AnsweredAt.examined
    · split
      · exact judge_moves s e l hl
      · exact (makeReady_moves s e).mono fun _ _ _ => ReadyAt.examined hl

/-- The release of causes changes the causes of HELD entries alone. -/
theorem releaseCause_cases (s : State) (x : Entry) :
    s.releaseCause x = x ∨ ∃ c, x.state = .held c ∧ x.kind ≠ .barrier ∧ s.releaseCause x =
      { x with state := .held ⟨c.line, c.portOrder && s.portOrderHolds x, c.barrier && s.barrierHolds x⟩ } := by
  unfold State.releaseCause
  split
  · split
    · exact .inl rfl
    · exact .inr ⟨_, ‹_›, ‹_›, rfl⟩
  all_goals exact .inl rfl

theorem releaseCauses_moves (s : State) : TableMoves (fun x o => o = some (s.releaseCause x)) s s.releaseCauses :=
  setEntries_moves (.map _ fun _ _ => rfl)

end Sys2Proof.Machine
end

section
namespace Sys2Proof.Machine

open Sys2Proof

/-! ## What an entry keeps -/

/-- y is an entry of the same request as x, at the same place of the arrival order. -/
structure Entry.SameRequest (x y : Entry) : Prop where
  port : y.port = x.port
  portTag : y.portTag = x.portTag
  kind : y.kind = x.kind
  line : y.line = x.line
  arrival : y.arrival = x.arrival

/-- y is x's request, its bypass count within the limit if x's is, and unchanged while it is DEFERRED or HELD, which it
comes to be from these two states alone. -/
structure Entry.Keeps (limit : Nat) (x y : Entry) : Prop extends Entry.SameRequest x y where
  bypass : x.bypass ≤ limit → y.bypass ≤ limit
  parked : y.phase ≤ 1 → x.phase ≤ 1 ∧ y.bypass = x.bypass

/-- y is x at the same phase or a later one. -/
structure Entry.Continues (limit : Nat) (x y : Entry) : Prop extends Entry.Keeps limit x y where
  phase : x.phase ≤ y.phase

/-- y is x at the same phase or a later one, and is under way only if x is. -/
structure Entry.Follows (limit : Nat) (x y : Entry) : Prop extends Entry.Continues limit x y where
  underWay : y.isUnderWay = true → x.isUnderWay = true

theorem Entry.SameRequest.refl (x : Entry) : x.SameRequest x := ⟨rfl, rfl, rfl, rfl, rfl⟩

theorem Entry.Keeps.refl (limit : Nat) (x : Entry) : x.Keeps limit x := ⟨.refl x, id, fun h => ⟨h, rfl⟩⟩

theorem Entry.Follows.refl (limit : Nat) (x : Entry) : x.Follows limit x := ⟨⟨.refl limit x, le_rfl⟩, id⟩

theorem Entry.SameRequest.trans {x y z : Entry} (h : x.SameRequest y) (k : y.SameRequest z) : x.SameRequest z :=
  ⟨k.port.trans h.port, k.portTag.trans h.portTag, k.kind.trans h.kind, k.line.trans h.line, k.arrival.trans h.arrival⟩

theorem Entry.Keeps.trans {limit : Nat} {x y z : Entry} (h : x.Keeps limit y) (k : y.Keeps limit z) :
    x.Keeps limit z :=
  ⟨h.toSameRequest.trans k.toSameRequest, fun hx => k.bypass (h.bypass hx), fun hz =>
    ⟨(h.parked (k.parked hz).1).1, (k.parked hz).2.trans (h.parked (k.parked hz).1).2⟩⟩

theorem Entry.Continues.trans {limit : Nat} {x y z : Entry} (h : x.Continues limit y) (k : y.Continues limit z) :
    x.Continues limit z := ⟨h.toKeeps.trans k.toKeeps, h.phase.trans k.phase⟩

theorem Entry.Follows.trans {limit : Nat} {x y z : Entry} (h : x.Follows limit y) (k : y.Follows limit z) :
    x.Follows limit z := ⟨h.toContinues.trans k.toContinues, fun hz => h.underWay (k.underWay hz)⟩

theorem Entry.Keeps.setState {limit : Nat} (x : Entry) (st : EntryState)
    (h : { x with state := st }.phase ≤ 1 → x.phase ≤ 1) : x.Keeps limit { x with state := st } :=
  ⟨⟨rfl, rfl, rfl, rfl, rfl⟩, id, fun hy => ⟨h hy, rfl⟩⟩

theorem Entry.Continues.setState {limit : Nat} (x : Entry) (st : EntryState)
    (h : x.phase ≤ { x with state := st }.phase) : x.Continues limit { x with state := st } :=
  ⟨.setState x st h.trans, h⟩

theorem Entry.Follows.answer (limit : Nat) (x : Entry) (st : Status) (d : Option Data) (k : Nat) :
    x.Follows limit (x.answer st d k) :=
  ⟨⟨⟨⟨rfl, rfl, rfl, rfl, rfl⟩, id, fun h => by simp at h⟩, x.phase_le⟩, fun h => by simp [Entry.isUnderWay_iff_phase] at h⟩

/-- A parked entry that comes to be HELD, or changes its causes. -/
theorem Entry.Follows.held {limit : Nat} (x : Entry) (c : HoldCauses) (h : x.phase ≤ 1) :
    x.Follows limit { x with state := .held c } :=
  ⟨.setState x _ h, fun hy => by simp [Entry.isUnderWay] at hy⟩

theorem Entry.Follows.orphan (limit : Nat) (x : Entry) (p : Port) : x.Follows limit (x.orphan p) := by
  unfold Entry.orphan
  split
  · split
    · rename_i t ht
      exact ⟨.setState x _ (by simp [Entry.phase, ht]), fun _ => by simp [Entry.isUnderWay, ht]⟩
    all_goals exact .refl limit x
  · exact .refl limit x

theorem Entry.Continues.ready {limit : Nat} (x : Entry) (h : x.isHeld = true) :
    x.Continues limit { x with state := .ready } := by
  have hx := x.isHeld_iff_phase.mp h
  exact .setState x _ (hx ▸ by simp [Entry.phase])

theorem Entry.phase_of_deferred {x : Entry} {g : GuardNo} (h : x.state = .deferred g) : x.phase = 0 := by
  simp [Entry.phase, h]

theorem Entry.phase_of_held {x : Entry} {c : HoldCauses} (h : x.state = .held c) : x.phase = 1 := by
  simp [Entry.phase, h]

theorem Entry.Follows.releaseCause (limit : Nat) (s : State) (x : Entry) : x.Follows limit (s.releaseCause x) := by
  rcases releaseCause_cases s x with h | ⟨c, hc, -, h⟩ <;> rw [h]
  · exact .refl limit x
  · exact .held x _ (by simp [Entry.phase_of_held hc])

theorem AnsweredAt.follows {limit n : Nat} {x : Entry} {o : Option Entry} (h : AnsweredAt n x o) :
    Each (Entry.Follows limit) x o := by
  cases h with
  | leaves => exact .none
  | answered st d k => exact .some (.answer limit x st d k)
  | stays => exact .some (.refl limit x)

theorem PlacedAt.follows {limit n : Nat} {x : Entry} {o : Option Entry} (h : PlacedAt n x o) :
    Each (Entry.Follows limit) x o := by
  cases h with
  | leaves => exact .none
  | stays => exact .some (.refl limit x)

theorem State.Rejoins.follows {limit : Nat} {s : State} {x : Entry} {o : Option Entry} (h : s.Rejoins x o) :
    Each (Entry.Follows limit) x o := by
  cases h with
  | stays => exact .some (.refl limit x)
  | rejoins g hg => exact .some (.held x _ (by simp [Entry.phase_of_deferred hg]))

/-- Whatever entry a check examines, every entry keeps its request and its bypass count. -/
theorem State.Examined.keeps {limit : Nat} {s : State} {e x : Entry} {o : Option Entry} (h : s.Examined e x o) :
    Each (Entry.Keeps limit) x o := by
  cases h with
  | leaves => exact .none
  | answered st d k => exact .some (Entry.Follows.answer limit x st d k).toKeeps
  | ready => exact .some (.setState x _ fun hy => by simp [Entry.phase] at hy)
  | stays => exact .some (.refl limit x)
  | rejoins g _ hg => exact .some (Entry.Follows.held x _ (by simp [Entry.phase_of_deferred hg])).toKeeps

/-- The check of a HELD entry takes no entry back, if its place in the arrival order is its own. -/
theorem State.Examined.continues {limit : Nat} {s : State} {e x : Entry} {o : Option Entry} (h : s.Examined e x o)
    (he : e.isHeld = true) (hx : x.arrival = e.arrival → x = e) : Each (Entry.Continues limit) x o := by
  cases h with
  | leaves => exact .none
  | answered st d k => exact .some (Entry.Follows.answer limit x st d k).toContinues
  | ready hxe => exact .some (.ready x (hx hxe ▸ he))
  | stays => exact .some (Entry.Follows.refl limit x).toContinues
  | rejoins g _ hg => exact .some (Entry.Follows.held x _ (by simp [Entry.phase_of_deferred hg])).toContinues

/-! ## Hold causes (R8, R13, R16) -/

theorem State.portOrderHolds_iff (s : State) (e : Entry) :
    s.portOrderHolds e = true ↔ s.config.ports[e.port].order = .strict ∧ ∃ x ∈ s.entries, x.port = e.port ∧
      x.arrival < e.arrival ∧ x.kind ≠ .barrier ∧ (x.isDeferred = true ∨ x.isHeld = true ∨ x.state = .ready) := by
  simp [State.portOrderHolds, Entry.isOlderAtPort, and_assoc, or_assoc]

theorem State.barrierHolds_iff (s : State) (e : Entry) :
    s.barrierHolds e = true ↔ ∃ x ∈ s.entries, x.port = e.port ∧ x.arrival < e.arrival ∧ x.kind = .barrier ∧
      x.isAnswered = false := by
  simp [State.barrierHolds, Entry.isOlderAtPort, and_assoc]

/-- A HELD entry of a line carries LINE, and PORT_ORDER and BARRIER at least while their conditions hold. -/
def State.Covers (s : State) (e : Entry) : Prop :=
  ∀ c : HoldCauses, e.state = .held c → e.kind ≠ .barrier →
    c.line = true ∧ (s.portOrderHolds e = true → c.portOrder = true) ∧ (s.barrierHolds e = true → c.barrier = true)

/-- Within a happening no hold cause is missing, though one that has ended may still stand. -/
def CauseLaw (s : State) : Prop := ∀ e ∈ s.entries, s.Covers e

theorem State.Covers.of_phase {s : State} {e : Entry} (h : e.phase ≠ 1) : s.Covers e :=
  fun _ hc => (h (Entry.phase_of_held hc)).elim

/-- As entries go on, the condition of PORT_ORDER only ends. -/
theorem portOrderHolds_of_moves {limit : Nat} {s t : State} (h : TableMoves (Each (Entry.Continues limit)) s t)
    {x y : Entry} (hp : y.port = x.port) (ha : y.arrival = x.arrival) (ht : t.portOrderHolds y = true) :
    s.portOrderHolds x = true := by
  rw [State.portOrderHolds_iff] at ht ⊢
  obtain ⟨hs, v, hv, hvp, hva, hvk, hvw⟩ := ht
  obtain ⟨u, hu, huv⟩ := h.entries.mem hv
  have huv := huv v rfl
  refine ⟨by simpa [h.config, hp] using hs, u, hu, by rw [← hp, ← hvp, huv.port], by rw [← ha, ← huv.arrival]; exact hva,
    huv.kind ▸ hvk, ?_⟩
  exact u.waits_iff_phase.mpr (huv.phase.trans (v.waits_iff_phase.mp hvw))

/-- As entries go on, the condition of BARRIER only ends. -/
theorem barrierHolds_of_moves {limit : Nat} {s t : State} (h : TableMoves (Each (Entry.Continues limit)) s t)
    {x y : Entry} (hp : y.port = x.port) (ha : y.arrival = x.arrival) (ht : t.barrierHolds y = true) :
    s.barrierHolds x = true := by
  rw [State.barrierHolds_iff] at ht ⊢
  obtain ⟨v, hv, hvp, hva, hvk, hvw⟩ := ht
  obtain ⟨u, hu, huv⟩ := h.entries.mem hv
  have huv := huv v rfl
  refine ⟨u, hu, by rw [← hp, ← hvp, huv.port], by rw [← ha, ← huv.arrival]; exact hva, huv.kind ▸ hvk, ?_⟩
  by_contra hua
  have hu5 := u.isAnswered_iff_phase.mp (by simpa using hua)
  have hv5 : v.isAnswered = true := v.isAnswered_iff_phase.mpr (le_antisymm v.phase_le (hu5 ▸ huv.phase))
  simp [hv5] at hvw

/-- Where entries go on and each that stays is covered if it was, no cause comes to be missing. -/
theorem CauseLaw.of_moves {limit : Nat} {s t : State}
    (h : TableMoves (Each fun x y => x.Continues limit y ∧ (s.Covers x → s.Covers y)) s t) (hs : CauseLaw s) :
    CauseLaw t := by
  intro y hy c hc hk
  obtain ⟨x, hx, hxy⟩ := h.entries.mem hy
  obtain ⟨hl, hpo, hba⟩ := (hxy y rfl).2 (hs x hx) c hc hk
  have hm : TableMoves (Each (Entry.Continues limit)) s t := h.mono fun _ _ _ hR z hz => (hR z hz).1
  exact ⟨hl, fun ht => hpo (portOrderHolds_of_moves hm rfl rfl ht), fun ht => hba (barrierHolds_of_moves hm rfl rfl ht)⟩

/-- From s to t entries only went on, none came to be under way, and no hold cause came to be missing. -/
structure TableFollows (limit : Nat) (s t : State) : Prop where
  moves : TableMoves (Each (Entry.Follows limit)) s t
  causes : CauseLaw s → CauseLaw t

theorem TableFollows.trans {limit : Nat} {s t u : State} (h : TableFollows limit s t) (k : TableFollows limit t u) :
    TableFollows limit s u :=
  ⟨h.moves.trans_each (fun _ _ _ => .trans) k.moves, fun hs => k.causes (h.causes hs)⟩

theorem TableFollows.of_moves {limit : Nat} {s t : State}
    (h : TableMoves (Each fun x y => x.Follows limit y ∧ (s.Covers x → s.Covers y)) s t) : TableFollows limit s t :=
  ⟨h.mono fun _ _ _ hR y hy => (hR y hy).1,
    CauseLaw.of_moves (h.mono fun _ _ _ hR y hy => ⟨(hR y hy).1.toContinues, (hR y hy).2⟩)⟩

theorem TableFollows.of_same {limit : Nat} {s t : State} (h : SameTable s t) : TableFollows limit s t :=
  .of_moves (.of_same h fun x _ => .some ⟨.refl limit x, id⟩)

theorem State.Covers.answer (s : State) (x : Entry) (st : Status) (d : Option Data) (k : Nat) : s.Covers (x.answer st d k) :=
  .of_phase (by simp)

/-- The causes found afresh are those whose conditions hold. -/
theorem State.Covers.rejoin (s : State) (x : Entry) : s.Covers { x with state := .held (s.causesNow x) } := by
  rintro _ ⟨⟩ -
  exact ⟨rfl, id, id⟩

theorem State.Covers.releaseCause {s : State} {x : Entry} (h : s.Covers x) : s.Covers (s.releaseCause x) := by
  rcases releaseCause_cases s x with hx | ⟨c, hc, hk, hx⟩ <;> rw [hx]
  · exact h
  · obtain ⟨hl, hpo, hba⟩ := h c hc hk
    rintro _ ⟨⟩ -
    exact ⟨hl, fun ht => (Bool.and_eq_true _ _).mpr ⟨hpo ht, ht⟩, fun ht => (Bool.and_eq_true _ _).mpr ⟨hba ht, ht⟩⟩

theorem State.Covers.orphan {s : State} {x : Entry} (p : Port) (h : s.Covers x) : s.Covers (x.orphan p) := by
  unfold Entry.orphan
  split
  · split
    · exact .of_phase (by simp [Entry.phase])
    all_goals exact h
  · exact h

theorem answer_follows (limit : Nat) (s : State) (n : Nat) (st : Status) (d : Option Data) :
    TableFollows limit s (s.answer n st d) :=
  .of_moves ((answer_moves s n st d).mono fun x _ o h y hy => ⟨h.follows y hy, fun hx => by
    subst hy
    cases h with
    | answered st d k => exact .answer s x st d k
    | stays => exact hx⟩)

theorem placeEntry_follows (limit : Nat) (s : State) (e : Entry) : TableFollows limit s (s.placeEntry e) :=
  .of_moves ((placeEntry_moves s e).mono fun x _ o h y hy => ⟨h.follows y hy, fun hx => by
    subst hy
    cases h with
    | stays => exact hx⟩)

theorem releaseGuard_follows (limit : Nat) (s : State) (g : GuardNo) : TableFollows limit s (s.releaseGuard g) :=
  .of_moves ((releaseGuard_moves s g).mono fun x _ o h y hy => ⟨h.follows y hy, fun hx => by
    subst hy
    cases h with
    | stays => exact hx
    | rejoins => exact .rejoin s x⟩)

theorem releaseCauses_follows (limit : Nat) (s : State) : TableFollows limit s s.releaseCauses :=
  .of_moves ((releaseCauses_moves s).mono fun x _ _ h y hy => by
    obtain rfl : s.releaseCause x = y := Option.some.inj (h ▸ hy)
    exact ⟨.releaseCause limit s x, .releaseCause⟩)

theorem removeEntries_follows (limit : Nat) (s : State) (gone : Entry → Bool) :
    TableFollows limit s (s.removeEntries gone) :=
  .of_moves ((removeEntries_moves s gone).mono fun x _ _ h y hy => by
    subst hy
    split at h
    · cases h
    · cases h; exact ⟨.refl limit x, id⟩)

theorem filterEntries_follows (limit : Nat) (s : State) (q : Entry → Bool) :
    TableFollows limit s (s.setEntries (s.entries.filter q)) :=
  .of_moves (setEntries_moves (.filter q fun x _ => by
    split
    · exact .some ⟨.refl limit x, id⟩
    · exact .none))

theorem orphanEntries_follows (limit : Nat) (s : State) (p : Port) :
    TableFollows limit s (s.setEntries (s.entries.map fun e => e.orphan p)) :=
  .of_moves (setEntries_moves (.map _ fun x _ => .some ⟨.orphan limit x p, .orphan p⟩))

end Sys2Proof.Machine
end

section
namespace Sys2Proof.Machine

open Sys2Proof

/-! ## The laws of the table along its moves -/

section Laws

variable {limit : Nat} {s t : State}

theorem TableMoves.each_mono {P Q : Entry → Entry → Prop} (hPQ : ∀ x y, P x y → Q x y) (h : TableMoves (Each P) s t) :
    TableMoves (Each Q) s t :=
  h.mono fun x _ _ hR y hy => hPQ x y (hR y hy)

theorem TableFollows.requests (h : TableFollows limit s t) : TableMoves (Each Entry.SameRequest) s t :=
  h.moves.each_mono fun _ _ hxy => hxy.toSameRequest

theorem TableFollows.keeps (h : TableFollows limit s t) : TableMoves (Each (Entry.Keeps limit)) s t :=
  h.moves.each_mono fun _ _ hxy => hxy.toKeeps

theorem TableLaw.of_moves (h : TableMoves (Each Entry.SameRequest) s t) (hs : TableLaw s) : TableLaw t := by
  obtain ⟨hlen, hquota, hstop⟩ := hs
  refine ⟨h.entries.length_le.trans hlen, fun p => ?_, fun ht => ?_⟩
  · rw [h.config]
    exact (h.entries.count_le _ fun x y hxy hy => by rw [← (hxy y rfl).port]; exact hy).trans (hquota p)
  · rcases h.stopped (by simpa [State.takesConfiguration] using ht) with hst | hnil
    · exact (hstop (by simpa [State.takesConfiguration] using hst) ▸ h.entries).eq_nil
    · exact hnil

theorem BypassLaw.of_moves (h : TableMoves (Each (Entry.Keeps s.config.bypassLimit)) s t) (hs : BypassLaw s) :
    BypassLaw t := by
  intro y hy
  obtain ⟨x, hx, hxy⟩ := h.entries.mem hy
  have hxy := hxy y rfl
  obtain ⟨hle, hzero⟩ := hs x hx
  refine ⟨h.config ▸ hxy.bypass hle, fun hp => ?_⟩
  obtain ⟨hpx, hb⟩ := hxy.parked (y.parked_iff_phase.mp hp)
  rw [hb, hzero (x.parked_iff_phase.mpr hpx)]

theorem ArrivalLaw.of_moves (h : TableMoves (Each Entry.SameRequest) s t) (hs : ArrivalLaw s) : ArrivalLaw t := by
  obtain ⟨hsorted, hnext⟩ := hs
  refine ⟨h.entries.pairwise hsorted fun a _ b _ a' b' hab ha hb => ?_, fun y hy => ?_⟩
  · rw [(ha a' rfl).arrival, (hb b' rfl).arrival]; exact hab
  · obtain ⟨x, hx, hxy⟩ := h.entries.mem hy
    rw [(hxy y rfl).arrival, h.nextArrival]; exact hnext x hx

theorem PortTagLaw.of_moves (h : TableMoves (Each Entry.SameRequest) s t) (hs : PortTagLaw s) : PortTagLaw t :=
  h.entries.pairwise hs fun a _ b _ a' b' hab ha hb => by
    rw [(ha a' rfl).port, (hb b' rfl).port, (ha a' rfl).portTag, (hb b' rfl).portTag]; exact hab

theorem KindLaw.of_moves (h : TableMoves (Each (Entry.Follows limit)) s t) (hs : KindLaw s) : KindLaw t := by
  intro y hy
  obtain ⟨x, hx, hxy⟩ := h.entries.mem hy
  have hxy := hxy y rfl
  obtain ⟨hline, hbarrier⟩ := hs x hx
  refine ⟨by rw [hxy.line, hxy.kind]; exact hline, fun hk => ?_⟩
  have hx' := hbarrier (hxy.kind ▸ hk)
  have hp := hxy.phase
  have hu := hxy.underWay
  have hle := y.phase_le
  rw [Entry.isHeld_iff_phase, Entry.isAnswered_iff_phase] at hx' ⊢
  rw [Entry.isUnderWay_iff_phase, Entry.isUnderWay_iff_phase] at hu
  omega

theorem LineLaw.of_moves (h : TableMoves (Each (Entry.Follows limit)) s t) (hs : LineLaw s) : LineLaw t :=
  h.entries.pairwise hs fun a _ b _ a' b' hab ha hb => by
    rintro ⟨hl, ha', hb'⟩
    exact hab ⟨by rw [← (ha a' rfl).line, ← (hb b' rfl).line, hl], (ha a' rfl).underWay ha', (hb b' rfl).underWay hb'⟩

end Laws

/-! ## Places in the arrival order (R3) -/

theorem ArrivalLaw.unique {s : State} (hs : ArrivalLaw s) {x y : Entry} (hx : x ∈ s.entries) (hy : y ∈ s.entries)
    (hxy : x.arrival = y.arrival) : x = y := by
  have hnodup : (s.entries.map Entry.arrival).Nodup := List.pairwise_map.mpr (hs.1.imp fun h => h.ne)
  exact List.inj_on_of_nodup_map hnodup hx hy hxy

/-- The first entry found is the oldest that answers to q. -/
theorem ArrivalLaw.find?_le {s : State} (hs : ArrivalLaw s) {q : Entry → Bool} {e x : Entry}
    (he : s.entries.find? q = some e) (hx : x ∈ s.entries) (hqx : q x = true) : e.arrival ≤ x.arrival := by
  obtain ⟨-, as, bs, heq, has⟩ := List.find?_eq_some_iff_append.mp he
  have hsorted := hs.1
  rw [heq] at hx hsorted
  rcases List.mem_append.mp hx with hx | hx
  · have := has x hx; simp [hqx] at this
  · rcases List.mem_cons.mp hx with rfl | hx
    · exact le_rfl
    · exact ((List.pairwise_cons.mp (List.pairwise_append.mp hsorted).2.1).1 x hx).le

theorem ArrivalLaw.entryAt {s : State} (hs : ArrivalLaw s) {e : Entry} (he : e ∈ s.entries) :
    s.entryAt e.arrival = some e := by
  cases hf : s.entryAt e.arrival with
  | none => have := List.find?_eq_none.mp hf e he; simp at this
  | some x => rw [hs.unique (List.mem_of_find?_eq_some hf) he (by simpa using List.find?_some hf)]

/-! ## Which entry is due (R9, R12, R15) -/

theorem State.isDue_barrier {s : State} {e : Entry} {c : HoldCauses} (hc : e.state = .held c) (hk : e.kind = .barrier) :
    s.isDue e = s.entries.all (fun x => !x.isOlderAtPort e || x.isAnswered) := by
  simp [State.isDue, hc, hk]

theorem State.isDue_line {s : State} {e : Entry} {c : HoldCauses} (hc : e.state = .held c) (hk : e.kind ≠ .barrier) :
    s.isDue e = (c == ⟨true, false, false⟩ && s.isLineHead e) := by
  simp [State.isDue, hc, hk]

theorem State.isDue_of_not_held {s : State} {e : Entry} (h : e.isHeld = false) : s.isDue e = false := by
  unfold Entry.isHeld at h
  unfold State.isDue
  split <;> simp_all

theorem State.isHeld_of_isDue {s : State} {e : Entry} (h : s.isDue e = true) : e.isHeld = true := by
  by_contra hn
  rw [State.isDue_of_not_held (by simpa using hn)] at h
  cases h

theorem State.isDue_barrier_iff {s : State} {e : Entry} (hk : e.kind = .barrier) :
    s.isDue e = true ↔ (∃ c, e.state = .held c) ∧
      ∀ x ∈ s.entries, x.port = e.port → x.arrival < e.arrival → ∃ st n, x.state = .answered st n := by
  rw [← Entry.isHeld_iff]
  constructor
  · intro h
    have hh := State.isHeld_of_isDue h
    obtain ⟨c, hc⟩ := e.isHeld_iff.mp hh
    rw [State.isDue_barrier hc hk, List.all_eq_true] at h
    refine ⟨hh, fun x hx hp ha => x.isAnswered_iff.mp ?_⟩
    simpa [Entry.isOlderAtPort, hp, ha] using h x hx
  · rintro ⟨hh, h⟩
    obtain ⟨c, hc⟩ := e.isHeld_iff.mp hh
    rw [State.isDue_barrier hc hk, List.all_eq_true]
    intro x hx
    by_cases hxe : x.port = e.port ∧ x.arrival < e.arrival
    · simp [x.isAnswered_iff.mpr (h x hx hxe.1 hxe.2)]
    · have hxe : x.isOlderAtPort e = false := by simpa [Entry.isOlderAtPort] using hxe
      simp [hxe]

theorem State.isLineHead_eq (s : State) {e : Entry} {l : Line} (hl : e.line = some l) :
    s.isLineHead e =
      ((s.entries.find? fun x => x.line == some l && x.isUnderWay).or
        (s.entries.find? fun x => x.line == some l && x.isHeld)).any (fun h => h.arrival == e.arrival) := by
  simp only [State.isLineHead, hl, State.lineQueue, List.head?_append, List.head?_filter]
  split <;> rename_i h <;> rw [h] <;> rfl

/-- A HELD entry is line head when none of its line is under way, and none HELD there is older (R6, R7). -/
theorem State.isLineHead_iff {s : State} (hs : ArrivalLaw s) {e : Entry} (he : e ∈ s.entries) (hh : e.isHeld = true)
    {l : Line} (hl : e.line = some l) :
    s.isLineHead e = true ↔
      ∀ x ∈ s.entries, x.line = e.line → x.isUnderWay = false ∧ (x.isHeld = true → e.arrival ≤ x.arrival) := by
  rw [s.isLineHead_eq hl, hl]
  cases hu : s.entries.find? fun x => x.line == some l && x.isUnderWay with
  | some h =>
    have hh' : h.line = some l ∧ h.isUnderWay = true := by simpa using List.find?_some hu
    have hmem := List.mem_of_find?_eq_some hu
    simp only [Option.some_or, Option.any_some, beq_iff_eq]
    constructor
    · intro ha
      have hq := h.isUnderWay_iff_phase.mp hh'.2
      rw [hs.unique hmem he ha, e.isHeld_iff_phase.mp hh] at hq
      omega
    · intro h'
      rw [(h' h hmem hh'.1).1] at hh'
      cases hh'.2
  | none =>
    have hnone : ∀ x ∈ s.entries, x.line = some l → x.isUnderWay = false := by simpa using hu
    cases hf : s.entries.find? fun x => x.line == some l && x.isHeld with
    | none =>
      have := List.find?_eq_none.mp hf e he
      simp [hl, hh] at this
    | some h =>
      simp only [Option.none_or, Option.any_some, beq_iff_eq]
      constructor
      · intro ha x hx hxl
        exact ⟨hnone x hx hxl, fun hxh => ha ▸ hs.find?_le hf hx (by simp [hxl, hxh])⟩
      · intro h'
        have hh' : h.line = some l ∧ h.isHeld = true := by simpa using List.find?_some hf
        exact le_antisymm (hs.find?_le hf he (by simp [hl, hh])) ((h' h (List.mem_of_find?_eq_some hf) hh'.1).2 hh'.2)

theorem State.isDue_line_iff {s : State} (hs : ArrivalLaw s) {e : Entry} (he : e ∈ s.entries) (hk : e.kind ≠ .barrier)
    {l : Line} (hl : e.line = some l) :
    s.isDue e = true ↔ e.state = .held ⟨true, false, false⟩ ∧
      ∀ x ∈ s.entries, x.line = e.line → x.isUnderWay = false ∧ (x.isHeld = true → e.arrival ≤ x.arrival) := by
  constructor
  · intro h
    have hh := State.isHeld_of_isDue h
    obtain ⟨c, hc⟩ := e.isHeld_iff.mp hh
    rw [State.isDue_line hc hk, Bool.and_eq_true, beq_iff_eq] at h
    exact ⟨h.1 ▸ hc, (State.isLineHead_iff hs he hh hl).mp h.2⟩
  · rintro ⟨hc, h⟩
    rw [State.isDue_line hc hk, (State.isLineHead_iff hs he (e.isHeld_iff.mpr ⟨_, hc⟩) hl).mpr h]
    rfl

end Sys2Proof.Machine
end

section
namespace Sys2Proof.Machine

open Sys2Proof

/-! ## The checks of a happening end with nothing due (log entry 25) -/

theorem weight_pos_of_due {s : State} {e : Entry} (he : e ∈ s.entries) (hd : s.isDue e = true) : 0 < s.weight := by
  have hw : 0 < e.weight := by
    rw [e.weight_eq, e.isHeld_iff_phase.mp (State.isHeld_of_isDue hd)]; decide
  exact hw.trans_le (List.le_sum_of_mem (List.mem_map_of_mem he))

theorem releaseCause_phase (s : State) (x : Entry) : (s.releaseCause x).phase = x.phase := by
  rcases releaseCause_cases s x with h | ⟨c, hc, -, h⟩ <;> rw [h]
  rw [Entry.phase_of_held hc]; rfl

theorem releaseCauses_weight (s : State) : s.releaseCauses.weight = s.weight := by
  unfold State.weight State.releaseCauses
  rw [State.setEntries_entries, List.map_map]
  refine congrArg List.sum (List.map_congr_left fun x _ => ?_)
  rw [Function.comp_apply, Entry.weight_eq, Entry.weight_eq, releaseCause_phase]

/-- A check or an answer lowers the bound on those that can still follow. -/
theorem examine_weight_lt {s : State} {e : Entry} (he : e ∈ s.entries) (hd : s.isDue e = true) :
    (s.examine e).weight < s.weight := by
  have hheld := e.isHeld_iff_phase.mp (State.isHeld_of_isDue hd)
  refine (examine_moves s e).entries.sum_lt Entry.weight (fun x _ y hxy => ?_) he fun o ho => ?_
  · rw [x.weight_eq, y.weight_eq]
    cases hxy with
    | answered => simp
    | ready => simp [Entry.phase]
    | stays => exact le_rfl
    | rejoins g _ hg => rw [Entry.phase_of_deferred hg]; omega
  · rw [e.weight_eq, hheld]
    cases ho with
    | leaves => decide
    | answered st d k => simp [Entry.weight_eq]
    | ready => exact Nat.zero_lt_one
    | stays hne => exact (hne rfl).elim
    | rejoins g hne => exact (hne rfl).elim

/-- With fuel for the bound, the loop's result does not depend on the fuel. -/
theorem settleLoop_fuel (n m : Nat) (s : State) (hn : s.weight ≤ n) (hm : s.weight ≤ m) :
    State.settleLoop n s = State.settleLoop m s := by
  induction n generalizing m s with
  | zero =>
    cases m with
    | zero => rfl
    | succ m =>
      have hnone : s.releaseCauses.entries.find? s.releaseCauses.isDue = none :=
        List.find?_eq_none.mpr fun e he hd => by
          have := weight_pos_of_due he hd; rw [releaseCauses_weight] at this; omega
      simp only [State.settleLoop, hnone]
  | succ n ih =>
    cases hf : s.releaseCauses.entries.find? s.releaseCauses.isDue with
    | none => cases m <;> simp only [State.settleLoop, hf]
    | some e =>
      have he := List.mem_of_find?_eq_some hf
      have hd := List.find?_some hf
      have hlt := examine_weight_lt he hd
      rw [releaseCauses_weight] at hlt
      obtain ⟨m, rfl⟩ : ∃ k, m = k + 1 := ⟨m - 1, by omega⟩
      simp only [State.settleLoop, hf]
      exact ih m _ (by omega) (by omega)

theorem settle_of_none {s : State} (h : s.releaseCauses.entries.find? s.releaseCauses.isDue = none) :
    s.settle = s.releaseCauses := by
  unfold State.settle
  cases s.weight <;> simp only [State.settleLoop, h]

theorem settle_of_some {s : State} {e : Entry}
    (h : s.releaseCauses.entries.find? s.releaseCauses.isDue = some e) :
    s.settle = (s.releaseCauses.examine e).settle := by
  have hlt := examine_weight_lt (List.mem_of_find?_eq_some h) (List.find?_some h)
  rw [releaseCauses_weight] at hlt
  unfold State.settle
  obtain ⟨n, hn⟩ : ∃ k, s.weight = k + 1 := ⟨s.weight - 1, by omega⟩
  rw [hn]
  simp only [State.settleLoop, h]
  exact settleLoop_fuel _ _ _ (by omega) le_rfl

/-- A happening ends with a last release of causes that leaves nothing due, in a state that every law kept by the releases,
checks and answers before it holds of. -/
theorem settle_ends (Q : State → Prop) (hr : ∀ s, Q s → Q s.releaseCauses)
    (he : ∀ s e, e ∈ s.entries → s.isDue e = true → Q s → Q (s.examine e)) (s : State) (hs : Q s) :
    ∃ u, Q u ∧ s.settle = u.releaseCauses ∧ ∀ e ∈ u.releaseCauses.entries, u.releaseCauses.isDue e = false := by
  induction hw : s.weight using Nat.strong_induction_on generalizing s with
  | _ n ih =>
    cases hf : s.releaseCauses.entries.find? s.releaseCauses.isDue with
    | none => exact ⟨s, hs, settle_of_none hf, by simpa using hf⟩
    | some e =>
      have hmem := List.mem_of_find?_eq_some hf
      have hd := List.find?_some hf
      rw [settle_of_some hf]
      refine ih _ ?_ _ (he _ _ hmem hd (hr s hs)) rfl
      rw [← hw, ← releaseCauses_weight s]
      exact examine_weight_lt hmem hd

theorem settle_nothing_due (s : State) : ∀ e ∈ s.settle.entries, s.settle.isDue e = false := by
  obtain ⟨u, -, hu, hdue⟩ := settle_ends (fun _ => True) (fun _ _ => trivial) (fun _ _ _ _ _ => trivial) s trivial
  rw [hu]; exact hdue

/-- The release of causes changes no entry in what the conditions of PORT_ORDER and BARRIER look at. -/
theorem releaseCauses_any (s : State) (q : Entry → Bool) (hq : ∀ x, q (s.releaseCause x) = q x) :
    s.releaseCauses.entries.any q = s.entries.any q := by
  simp [State.releaseCauses, List.any_map, Function.comp_def, hq]

theorem releaseCause_sameRequest (s : State) (x : Entry) : x.SameRequest (s.releaseCause x) :=
  (Entry.Follows.releaseCause 0 s x).toSameRequest

theorem releaseCauses_portOrderHolds {s : State} {x y : Entry} (hp : y.port = x.port) (ha : y.arrival = x.arrival) :
    s.releaseCauses.portOrderHolds y = s.portOrderHolds x := by
  unfold State.portOrderHolds
  rw [releaseCauses_any]
  · simp [State.releaseCauses, Entry.isOlderAtPort, hp, ha]
  · intro z
    have hz := releaseCause_sameRequest s z
    have hw : ((s.releaseCause z).isDeferred || (s.releaseCause z).isHeld || (s.releaseCause z).state == .ready) =
        (z.isDeferred || z.isHeld || z.state == .ready) := by
      rw [Bool.eq_iff_iff]
      simpa [or_assoc, releaseCause_phase] using
        (s.releaseCause z).waits_iff_phase.trans (releaseCause_phase s z ▸ z.waits_iff_phase.symm)
    rw [hw]
    simp [Entry.isOlderAtPort, hz.port, hz.kind, hz.arrival]

theorem releaseCauses_barrierHolds {s : State} {x y : Entry} (hp : y.port = x.port) (ha : y.arrival = x.arrival) :
    s.releaseCauses.barrierHolds y = s.barrierHolds x := by
  unfold State.barrierHolds
  rw [releaseCauses_any]
  · simp [Entry.isOlderAtPort, hp, ha]
  · intro z
    have hz := releaseCause_sameRequest s z
    have hw : (s.releaseCause z).isAnswered = z.isAnswered := by
      rw [Bool.eq_iff_iff, Entry.isAnswered_iff_phase, Entry.isAnswered_iff_phase, releaseCause_phase]
    rw [hw]
    simp [Entry.isOlderAtPort, hz.port, hz.kind, hz.arrival]

/-- After a release of causes no HELD entry carries a cause that has ended. -/
theorem releaseCauses_causes {s : State} {e : Entry} (he : e ∈ s.releaseCauses.entries) {c : HoldCauses}
    (hc : e.state = .held c) (hk : e.kind ≠ .barrier) :
    ∃ x ∈ s.entries, ∃ c', x.state = .held c' ∧ x.kind ≠ .barrier ∧
      c = ⟨c'.line, c'.portOrder && s.releaseCauses.portOrderHolds e, c'.barrier && s.releaseCauses.barrierHolds e⟩ ∧
      x.port = e.port ∧ x.arrival = e.arrival := by
  obtain ⟨x, hx, rfl⟩ := List.mem_map.mp he
  have hsame := releaseCause_sameRequest s x
  rw [hsame.kind] at hk
  rw [releaseCauses_portOrderHolds hsame.port hsame.arrival, releaseCauses_barrierHolds hsame.port hsame.arrival]
  obtain ⟨c', hc'⟩ : ∃ c', x.state = .held c' := by
    rw [← x.isHeld_iff, x.isHeld_iff_phase, ← releaseCause_phase s x, Entry.phase_of_held hc]
  refine ⟨x, hx, c', hc', hk, ?_, hsame.port.symm, hsame.arrival.symm⟩
  simpa [State.releaseCause, hc', hk] using hc.symm

/-! ## What the checks keep -/

/-- The checks of a happening keep every entry's request and bypass count. -/
theorem settle_keepsEntries (limit : Nat) (s : State) : TableMoves (Each (Entry.Keeps limit)) s s.settle :=
  settle_keeps (TableMoves (Each (Entry.Keeps limit)) s)
    (fun t h => h.trans_each (fun _ _ _ => .trans) (releaseCauses_follows limit t).keeps)
    (fun t e _ _ h => h.trans_each (fun _ _ _ => .trans) ((examine_moves t e).mono fun _ _ _ => State.Examined.keeps))
    s (.of_same (.refl s) fun x _ => .some (.refl limit x))

theorem settle_requests (s : State) : TableMoves (Each Entry.SameRequest) s s.settle :=
  (settle_keepsEntries 0 s).each_mono fun _ _ h => h.toSameRequest

theorem examine_requests (s : State) (e : Entry) : TableMoves (Each Entry.SameRequest) s (s.examine e) :=
  (examine_moves s e).mono fun _ _ _ h y hy => (h.keeps (limit := 0) y hy).toSameRequest

theorem ArrivalLaw.examine {s : State} (hs : ArrivalLaw s) (e : Entry) : ArrivalLaw (s.examine e) :=
  hs.of_moves (examine_requests s e)

theorem ArrivalLaw.releaseCauses {s : State} (hs : ArrivalLaw s) : ArrivalLaw s.releaseCauses :=
  hs.of_moves (releaseCauses_follows 0 s).requests

/-- Under the arrival order a check takes no entry back and leaves no cause missing. -/
theorem examine_causeLaw {s : State} (hs : ArrivalLaw s) {e : Entry} (he : e ∈ s.entries) (hd : s.isDue e = true)
    (hc : CauseLaw s) : CauseLaw (s.examine e) := by
  refine CauseLaw.of_moves (limit := 0) ((examine_moves s e).mono fun x hx o h y hy => ?_) hc
  refine ⟨h.continues (State.isHeld_of_isDue hd) (hs.unique hx he) y hy, fun hx => ?_⟩
  subst hy
  cases h with
  | answered st d k => exact .answer s x st d k
  | ready => exact .of_phase (by simp [Entry.phase])
  | stays => exact hx
  | rejoins => exact .rejoin s x

/-- Within a happening no cause is missing, and at its end none has ended and none is left to act on (R8, R9). -/
theorem nothingDueLaw_settle {s : State} (hs : ArrivalLaw s) (hc : CauseLaw s) : NothingDueLaw s.settle := by
  refine ⟨settle_nothing_due s, fun e he c hec hk => ?_⟩
  obtain ⟨u, ⟨-, hcu⟩, hu, -⟩ := settle_ends (fun t => ArrivalLaw t ∧ CauseLaw t)
    (fun t ⟨ha, hc⟩ => ⟨ha.releaseCauses, (releaseCauses_follows 0 t).causes hc⟩)
    (fun t e he hd ⟨ha, hc⟩ => ⟨ha.examine e, examine_causeLaw ha he hd hc⟩) s ⟨hs, hc⟩
  rw [hu] at he ⊢
  obtain ⟨x, hx, c', hc', hxk, rfl, hp, ha⟩ := releaseCauses_causes he hec hk
  obtain ⟨hl, hpo, hba⟩ := hcu x hx c' hc' hxk
  rw [releaseCauses_portOrderHolds hp.symm ha.symm, releaseCauses_barrierHolds hp.symm ha.symm]
  have himp : ∀ {a b : Bool}, (b = true → a = true) → (a && b) = b := by decide
  rw [hl, himp hpo, himp hba]

theorem NothingDueLaw.causeLaw {s : State} (h : NothingDueLaw s) : CauseLaw s := fun e he c hc hk => by
  rw [h.2 e he c hc hk]; exact ⟨rfl, id, id⟩

/-- Under the arrival order the checks leave the entries whose operations are outstanding as they are, and make none. -/
theorem settle_outstanding {s : State} (hs : ArrivalLaw s) :
    s.settle.entries.filter Entry.isOutstanding = s.entries.filter Entry.isOutstanding := by
  refine (settle_keeps
    (fun t => ArrivalLaw t ∧ t.entries.filter Entry.isOutstanding = s.entries.filter Entry.isOutstanding)
    (fun t ⟨ha, ht⟩ => ⟨ha.releaseCauses, ?_⟩) (fun t e he hd ⟨ha, ht⟩ => ⟨ha.examine e, ?_⟩) s ⟨hs, rfl⟩).2
  · rw [← ht]
    refine (releaseCauses_moves t).entries.filter_eq _ fun x _ o h => ?_
    subst h
    rcases releaseCause_cases t x with h | ⟨c, hc, -, h⟩ <;> rw [h]
    · exact ⟨fun _ => rfl, fun y hy hq => by cases hy; exact hq⟩
    · refine ⟨fun hx => ?_, fun y hy hq => ?_⟩
      · simp [x.isOutstanding_iff_phase, Entry.phase_of_held hc] at hx
      · cases hy; simp [Entry.isOutstanding_iff_phase, Entry.phase] at hq
  · rw [← ht]
    refine (examine_moves t e).entries.filter_eq _ fun x hx o h => ?_
    have hphase := e.isHeld_iff_phase.mp (State.isHeld_of_isDue hd)
    simp only [Entry.isOutstanding_iff_phase]
    cases h with
    | leaves hxe => rw [ha.unique hx he hxe, hphase]; simp
    | answered st d k hxe => rw [ha.unique hx he hxe, hphase]; simp
    | ready hxe => rw [ha.unique hx he hxe, hphase]; simp [Entry.phase]
    | stays => simp
    | rejoins g _ hg => rw [Entry.phase_of_deferred hg]; simp [Entry.phase]

end Sys2Proof.Machine
end

section
namespace Sys2Proof.Machine

open Sys2Proof

/-! ## Acceptance and dispatch (R104, R144) -/

/-- The table with the entry of an accepted request, before the checks that its acceptance brings due. -/
def State.enter (s : State) (p : Port) (m : Request) : State :=
  { s with
    entries := s.entries ++ [{ s.newEntry p m with state := s.entryStateAt p m }]
    nextArrival := s.nextArrival + 1 }

theorem State.accept_eq (s : State) (p : Port) (m : Request) : s.accept p m = (s.enter p m).settle := rfl

/-- What the arrival checks have made sure of when none of them applies (R140). -/
theorem arrivalCheck_eq_none {s : State} {p : Port} {m : Request} (h : s.arrivalCheck p m = none) :
    s.partState = .online ∧ malformed m = false ∧ s.holdsTag p m.portTag = false ∧ s.quotaForbids p = false := by
  unfold State.arrivalCheck at h
  repeat' split at h
  all_goals simp_all

/-- What a dispatch of entry e with tag t makes of entry x of s. -/
inductive State.Bound (s : State) (e : Entry) (t : Tag) (x : Entry) : Option Entry → Prop
  | issued : x.arrival = e.arrival → s.Bound e t x (some { x with state := .issued t })
  | passed : x.arrival ≠ e.arrival → s.Bound e t x (some (s.raiseBypass e x))

theorem bind_moves (s : State) (e : Entry) (l : Line) (t : Tag) : TableMoves (s.Bound e t) s (s.bind e l t) where
  config := rfl
  nextArrival := rfl
  stopped ht := .inl ht
  entries := .map _ fun x _ => by
    split
    · exact .issued ‹_›
    · exact .passed ‹_›

theorem State.isCandidate_ready {s : State} {e : Entry} (h : s.isCandidate e = true) : e.state = .ready := by
  unfold State.isCandidate at h
  split at h <;> simp_all

/-- A dispatch that passes an entry by raises the bypass count of a READY one, to the limit at most (R100, R106). -/
theorem raiseBypass_follows (s : State) (e x : Entry) : x.Follows s.config.bypassLimit (s.raiseBypass e x) := by
  unfold State.raiseBypass
  split
  · rename_i h
    have hphase : x.phase = 2 := by simp [Entry.phase, State.isCandidate_ready h.1]
    refine ⟨⟨⟨⟨rfl, rfl, rfl, rfl, rfl⟩, fun hx => ?_, fun hy => ?_⟩, le_rfl⟩, id⟩
    · simp only [raisedBypass]; split <;> omega
    · exact absurd (hphase.symm.trans_le hy) (by decide)
  · exact .refl _ x

theorem State.Bound.keeps {s : State} {e x : Entry} {t : Tag} {o : Option Entry} (h : s.Bound e t x o) :
    Each (Entry.Keeps s.config.bypassLimit) x o := by
  cases h with
  | issued => exact .some (.setState x _ fun hy => by simp [Entry.phase] at hy)
  | passed => exact .some (raiseBypass_follows s e x).toKeeps

theorem raiseBypass_state (s : State) (e x : Entry) : (s.raiseBypass e x).state = x.state := by
  unfold State.raiseBypass; split <;> rfl

/-- The dispatch of a candidate follows from the table before it, if its place in the arrival order is its own. -/
theorem bind_follows {s : State} (hs : ArrivalLaw s) {e : Entry} (he : e ∈ s.candidates) (l : Line) (t : Tag) :
    TableFollows s.config.bypassLimit s (s.bind e l t) := by
  obtain ⟨hmem, hcand⟩ := List.mem_filter.mp he
  have hready := State.isCandidate_ready hcand
  refine .of_moves ((bind_moves s e l t).mono fun x hx o h y hy => ?_)
  subst hy
  cases h with
  | issued hxe =>
    obtain rfl := hs.unique hx hmem hxe
    exact ⟨⟨.setState x _ (by simp [Entry.phase, hready]), fun _ => by simp [Entry.isUnderWay, hready]⟩,
      fun _ => .of_phase (by simp [Entry.phase])⟩
  | passed =>
    have hsame := raiseBypass_follows s e x
    refine ⟨hsame, fun hcov c hc hk => ?_⟩
    rw [raiseBypass_state] at hc
    rw [hsame.kind] at hk
    have hpo : s.portOrderHolds (s.raiseBypass e x) = s.portOrderHolds x := by
      unfold State.raiseBypass; split <;> rfl
    have hba : s.barrierHolds (s.raiseBypass e x) = s.barrierHolds x := by
      unfold State.raiseBypass; split <;> rfl
    rw [hpo, hba]
    exact hcov c hc hk

/-! ## A law of the table is kept by every step

`Q` holds within a happening, `P` between happenings. -/

/-- What makes `P` a law that every command keeps: `Q`, which follows from `P`, is kept while the entries go on, at an
acceptance and at a dispatch, and gives `P` back once the checks are made; `P` is kept by what leaves the table alone, by the
placing of an ANSWERED entry's response and by a configuration write, and holds of an empty table. -/
structure HappeningLaw (Q P : State → Prop) : Prop where
  within : ∀ {s : State}, P s → Q s
  follows : ∀ {s t : State}, TableFollows s.config.bypassLimit s t → Q s → Q t
  enters : ∀ {s : State} {p : Port} {m : Request}, s.arrivalCheck p m = none → Q s → Q (s.enter p m)
  binds : ∀ {s : State} {e : Entry} (l : Line) (t : Tag), e ∈ s.candidates → Q s → Q (s.bind e l t)
  settles : ∀ {s : State}, Q s → P s.settle
  same : ∀ {s t : State}, P s → SameTable s t → P t
  places : ∀ {s : State} {e : Entry}, e ∈ s.entries → e.isAnswered = true → P s → P (s.placeEntry e)
  empty : ∀ {s : State}, s.entries = [] → P s
  stores : ∀ {s : State} (c : Configuration), s.takesConfiguration = true → P s → P (s.storeConfiguration c)

theorem setTag_same (s : State) (t : Tag) (r : TagRecord) : SameTable s (s.setTag t r) := .of_eq rfl rfl rfl rfl

theorem endBank_same (s : State) (l : Line) : SameTable s (s.endBank l) := .of_eq rfl rfl rfl rfl

theorem recordFault_same (s : State) (l : Line) (c : FaultCause) (p : Port) : SameTable s (s.recordFault l c p) := by
  rw [s.recordFault_frame]; exact .of_eq rfl rfl rfl rfl

theorem endReserve_same (s : State) (e : Entry) (l : Line) : SameTable s (s.endReserve e l) := by
  unfold State.endReserve; split
  · exact .of_eq rfl rfl rfl rfl
  · exact .refl s

theorem faultWrite_same (s : State) (e : Entry) (l : Line) (c : FaultCause) : SameTable s (s.faultWrite e l c) := by
  unfold State.faultWrite; split
  · exact recordFault_same s l c e.port
  · exact .refl s

theorem completeReserve_same (s : State) (e : Entry) (l : Line) (o : CompletionOutcome) :
    SameTable s (s.completeReserve e l o) := by
  unfold State.completeReserve; split
  · exact endReserve_same s e l
  · exact .refl s

theorem completeFault_same (s : State) (e : Entry) (l : Line) (o : CompletionOutcome) :
    SameTable s (s.completeFault e l o) := by
  cases o with
  | dataError => exact recordFault_same s l _ e.port
  | doneCorrected =>
    simp only [State.completeFault]
    split
    · exact post_same s _ _ _
    · split
      · exact .of_eq rfl rfl rfl rfl
      · exact .refl s
  | done =>
    simp only [State.completeFault]
    split
    · exact .of_eq rfl rfl rfl rfl
    · exact .refl s

theorem dispatchReservation_same (s : State) (e : Entry) (l : Line) : SameTable s (s.dispatchReservation e l) := by
  unfold State.dispatchReservation; split <;> exact .of_eq rfl rfl rfl rfl

theorem endCommand_same (s : State) (code : Byte) (r : CommandResult) : SameTable s (s.endCommand code r) :=
  .of_eq rfl rfl rfl rfl

theorem endFrame_same (s : State) (st : FrameStatus) (bytes : List Byte) : SameTable s (s.endFrame st bytes) :=
  .of_eq rfl rfl rfl rfl

theorem quietFrame_same (s : State) (f : QuietFrame) : SameTable s (s.quietFrame f) := by
  obtain ⟨q, o, m, h, -⟩ := s.quietFrame_eq f
  rw [h]; exact .of_eq rfl rfl rfl rfl

theorem readFrame_same (s : State) (a : Byte) (n : Nat) : SameTable s (s.readFrame a n) := quietFrame_same s (.read a n)

theorem expireReservation_same (s : State) (h : Holder) : SameTable s (s.expireReservation h) := by
  unfold State.expireReservation; split <;> exact .of_eq rfl rfl rfl rfl

theorem expireRecovery_same (s : State) (b : BankNo) : SameTable s (s.expireRecovery b) := by
  unfold State.expireRecovery; split <;> exact .of_eq rfl rfl rfl rfl

theorem writeSelector_same (s : State) (v : Word) : SameTable s (s.writeSelector v) := by
  unfold State.writeSelector; split <;> exact .of_eq rfl rfl rfl rfl

theorem writeOther_same (s : State) (w : OtherWord) (v : Word) : SameTable s (s.writeOther w v) := by
  unfold State.writeOther; split <;> exact .of_eq rfl rfl rfl rfl

theorem clearFault_same (s : State) (l : Line) : SameTable s (s.clearFault l).1 := by
  unfold State.clearFault; split <;> exact .of_eq rfl rfl rfl rfl

/-- GO_ONLINE only takes the part to ONLINE. -/
theorem goOnline_same (s : State) : SameTable s s.goOnline.1 := by
  have honline : SameTable s { s with partState := .online } := ⟨rfl, rfl, rfl, fun h => by cases h⟩
  have hcheck : SameTable s s.checkOnline.1 := by
    unfold State.checkOnline; split
    · exact honline
    · exact .refl s
  unfold State.goOnline; split
  · exact hcheck
  · exact hcheck
  · exact honline
  · exact .refl s

theorem firstAnswered_mem {s : State} {p : Port} {e : Entry} (h : s.firstAnswered p = some e) :
    e ∈ s.entries ∧ e.port = p ∧ e.isAnswered = true := by
  simpa using List.mem_of_find?_eq_some h

theorem choice_mem {s : State} {e : Entry} (h : s.choice = some e) : e ∈ s.candidates := by
  unfold State.choice at h
  split at h
  · cases h; exact List.mem_of_find?_eq_some ‹_›
  · obtain ⟨p, -, hp⟩ := List.exists_of_findSome?_eq_some h
    exact List.mem_of_find?_eq_some hp

/-- What a happening guarded by POR_n survives, the guard lets survive. -/
theorem keeps_unlessHeld {P : State → Prop} {s t : State} {f : State → State}
    (ht : (Host.Outcome.next (s.unlessHeld f) : Host.Outcome State Fault Refusal) = .next t) (hs : P s)
    (hf : P (f s)) : P t := by
  cases ht
  unfold State.unlessHeld
  split
  · exact hs
  · exact hf

namespace HappeningLaw

variable {Q P : State → Prop} (h : HappeningLaw Q P) {s : State}

include h

/-- A move within a happening, and then the checks. -/
theorem settleAfter {t : State} (hs : P s) (hst : TableFollows s.config.bypassLimit s t) : P t.settle :=
  h.settles (h.follows hst (h.within hs))

theorem endOperation (hs : P s) (e : Entry) (st : Status) (d : Option Data) : P (s.endOperation e st d) := by
  unfold State.endOperation
  split
  · have hP := h.same (h.settleAfter hs (filterEntries_follows _ s fun x => x.arrival != e.arrival))
      (endFencing_same _ e.port)
    dsimp only
    split
    · rename_i hnil
      refine h.empty ?_
      rw [State.reportEmpty_entries, State.endFencing_entries]
      exact (hnil ▸ (settle_requests _).entries).eq_nil
    · exact hP
  · exact h.settleAfter hs (answer_follows _ s _ st d)

theorem resetEntries (hs : P s) (p : Port) : P (s.resetEntries p) := by
  unfold State.resetEntries
  exact h.settleAfter hs ((orphanEntries_follows _ s p).trans (removeEntries_follows _ _ _))

theorem resetGuards (hs : P s) (p : Port) : P (s.resetGuards p) := by
  unfold State.resetGuards
  refine h.settles (List.foldlRecOn allGuards _ (h.within hs) fun t ht g _ => ?_)
  unfold State.releaseIfOwned
  split
  · exact h.follows (releaseGuard_follows _ t g) ht
  · exact ht

theorem resetPort (hs : P s) (p : Port) : P (s.resetPort p) := by
  have hclear : P ((s.setPort p ⟨.fenced, []⟩).clearHolders p) := h.same hs (.of_eq rfl rfl rfl rfl)
  unfold State.resetPort
  exact h.same (h.resetGuards (h.resetEntries hclear p) p) (endFencing_same _ p)

theorem takeRequest (hs : P s) (p : Port) (m : Request) : P (s.takeRequest p m) := by
  unfold State.takeRequest
  split
  · rename_i hcheck
    rw [State.accept_eq]
    exact h.settles (h.enters hcheck (h.within hs))
  · rename_i st why _
    have hplace := h.same hs (placeResponse_same s p (immediateResponse m st why))
    dsimp only
    split
    · exact h.same hplace (post_same _ _ _ _)
    · exact hplace

theorem takeFromWires (hs : P s) (p : Port) : P (s.takeFromWires p) := by
  unfold State.takeFromWires
  split
  · exact hs
  · split
    · rename_i m rest _ _
      have htaken : P { s with wires := s.wires.set p rest } := h.same hs (.of_eq rfl rfl rfl rfl)
      exact h.takeRequest htaken p m
    · exact hs

theorem deliver (hs : P s) (p : Port) : P (s.deliver p) := by
  unfold State.deliver
  split
  · exact hs
  · rename_i r rest _
    have htaken : P { s.setPort p { s.ports[p] with responses := rest } with delivered := s.delivered ++ [(p, r)] } :=
      h.same hs (.of_eq rfl rfl rfl rfl)
    unfold State.fillPlace
    split
    · exact htaken
    · rename_i e he
      obtain ⟨hmem, -, hans⟩ := firstAnswered_mem he
      exact h.places hmem hans htaken

theorem dispatch (hs : P s) : P s.dispatch := by
  unfold State.dispatch
  split
  · split
    · rename_i t e _ hchoice
      split
      · rename_i l _
        have hbound := h.binds l t (choice_mem hchoice) (h.within hs)
        exact h.settles (h.follows (.of_same (dispatchReservation_same _ e l)) hbound)
      · exact hs
    all_goals exact hs
  · exact hs

theorem completeEntry (hs : P s) (t : Tag) (e : Entry) (l : Line) (m : Completion) : P (s.completeEntry t e l m) := by
  have hended : P ((s.setTag t .free).endBank l) := h.same (h.same hs (setTag_same s t _)) (endBank_same _ l)
  have hreserve := h.same hended (completeReserve_same _ e l (effectiveOutcome e m))
  exact h.endOperation (h.same hreserve (completeFault_same _ e l (effectiveOutcome e m))) e _ _

theorem complete (hs : P s) (m : Completion) : P (s.complete m) := by
  unfold State.complete
  split
  · unfold State.completeTag
    split
    · exact h.same hs (post_same s _ _ _)
    · exact h.same hs ((setTag_same s _ _).trans (post_same _ _ _ _))
    · split
      · exact h.same hs (setTag_same s _ _)
      · split
        · exact h.same hs (setTag_same s _ _)
        · exact h.completeEntry hs _ _ _ m
  · exact h.same hs (post_same s _ _ _)

theorem timeOutEntry (hs : P s) (t : Tag) (e : Entry) (l : Line) : P (s.timeOutEntry t e l) := by
  have hended : P ((s.setTag t (.quarantined (operationOf e.kind) l e.port)).endBank l) :=
    h.same (h.same hs (setTag_same s t _)) (endBank_same _ l)
  have hreserve := h.same hended (endReserve_same _ e l)
  have hwritten := h.same hreserve (faultWrite_same _ e l .writeTimeout)
  exact h.same (h.endOperation hwritten e .timeout none) (post_same _ _ _ _)

theorem timeOut (hs : P s) (t : Tag) : P (s.timeOut t) := by
  unfold State.timeOut
  split
  · exact hs
  · exact hs
  · split
    · exact hs
    · split
      · exact hs
      · exact h.timeOutEntry hs t _ _

theorem linkAbort (hs : P s) : P s.linkAbort := by
  have hreserve := List.foldlRecOn (motive := P) (s.entries.filter Entry.isOutstanding)
    (fun s e => match e.line with | none => s | some l => s.endReserve e l) hs fun t ht e _ => by
      split
      · exact ht
      · exact h.same ht (endReserve_same t e _)
  have hfault := List.foldlRecOn (motive := P) (s.entries.filter Entry.isOutstanding)
    (fun s e => match e.line with | none => s | some l => s.faultWrite e l .writeAborted) hreserve fun t ht e _ => by
      split
      · exact ht
      · exact h.same ht (faultWrite_same t e _ _)
  have hend := List.foldlRecOn (motive := P) (s.entries.filter Entry.isOutstanding)
    (fun s e => s.endOperation e .aborted none) hfault fun t ht e _ => h.endOperation ht e .aborted none
  exact h.same hend (.of_eq rfl rfl rfl rfl)

theorem signalDown (hs : P s) : P s.signalDown := by
  unfold State.signalDown
  split
  · exact h.linkAbort hs
  · exact hs

theorem expireGuard (hs : P s) (g : GuardNo) : P (s.expireGuard g) := by
  unfold State.expireGuard
  split
  · exact hs
  · rename_i l o i _
    have hzeroed := h.same hs (setReservation_same s o { s.reservations[o] with failures := 0 })
    have hposted := h.same hzeroed (post_same _ .guardExpired (some (portOf o)) (.line l))
    exact h.settleAfter hposted (releaseGuard_follows _ _ g)

/-- A drain of an empty table leaves it empty, and another leaves it as it is. -/
theorem drain (hs : P s) : P s.drain.1 := by
  unfold State.drain
  split
  · split
    · exact h.empty ‹_›
    · exact h.same hs ⟨rfl, rfl, rfl, fun ht => by cases ht⟩
  all_goals exact hs

theorem commandPortReset (hs : P s) (args : CommandArguments) : P (s.commandPortReset args).1 := by
  unfold State.commandPortReset
  cases namedPort args with
  | some p => dsimp only; exact h.resetPort hs p
  | none => exact hs

theorem writeConfiguration (hs : P s) (w : ConfigWord) (v : Word) : P (s.writeConfiguration w v) := by
  unfold State.writeConfiguration
  split
  · split
    · exact h.same (h.stores _ ‹_› hs) (endFrame_same _ _ _)
    · exact h.same hs (endFrame_same s _ _)
  · exact h.same hs (endFrame_same s _ _)

/-- Every command keeps `P`. -/
theorem exec {c : Instr} {t : State} (hs : P s) (ht : Machine.exec c s = .next t) : P t := by
  cases c with
  | porNAsserted => cases ht; exact h.empty rfl
  | porNDeasserted =>
    cases ht
    unfold State.releasePower
    split
    · exact h.same hs (.of_eq rfl rfl rfl rfl)
    · exact hs
  | prstNAsserted p => exact keeps_unlessHeld ht hs (h.resetPort hs p)
  | request p m =>
    have hp : P (s.present p m) := h.same hs (.of_eq rfl rfl rfl rfl)
    exact keeps_unlessHeld ht hp (h.takeFromWires hp p)
  | delivery p => exact keeps_unlessHeld ht hs (h.deliver hs p)
  | dispatch => exact keeps_unlessHeld ht hs (h.dispatch hs)
  | completion m => exact keeps_unlessHeld ht hs (h.complete hs m)
  | completionTimeout k => exact keeps_unlessHeld ht hs (h.timeOut hs k)
  | linkUp => exact keeps_unlessHeld ht hs (h.same hs (.of_eq rfl rfl rfl rfl))
  | linkDown => exact keeps_unlessHeld ht hs (h.signalDown hs)
  | reservationExpiry k => exact keeps_unlessHeld ht hs (h.same hs (expireReservation_same s k))
  | guardExpiry g => exact keeps_unlessHeld ht hs (h.expireGuard hs g)
  | bankRecoveryExpiry b => exact keeps_unlessHeld ht hs (h.same hs (expireRecovery_same s b))
  | goOnline args => exact keeps_unlessHeld ht hs (h.same (h.same hs (goOnline_same s)) (endCommand_same _ _ _))
  | drain args => exact keeps_unlessHeld ht hs (h.same (h.drain hs) (endCommand_same _ _ _))
  | fullReset args => exact keeps_unlessHeld ht hs (h.empty rfl)
  | portReset args => exact keeps_unlessHeld ht hs (h.same (h.commandPortReset hs args) (endCommand_same _ _ _))
  | linkReset args =>
    have hsent : P (s.send .linkReset) := h.same hs (.of_eq rfl rfl rfl rfl)
    exact keeps_unlessHeld ht hs (h.same (h.signalDown hsent) (endCommand_same _ _ _))
  | clearFault args => exact keeps_unlessHeld ht hs (h.same (h.same hs (clearFault_same s _)) (endCommand_same _ _ _))
  | clearAllFaults args => exact keeps_unlessHeld ht hs (h.same hs (.of_eq rfl rfl rfl rfl))
  | unknownCommand code args =>
    simp only [Machine.exec, execUnknownCommand] at ht
    split at ht
    · exact keeps_unlessHeld ht hs (h.same hs (endCommand_same s _ _))
    · cases ht
  | configurationWrite w v => exact keeps_unlessHeld ht hs (h.writeConfiguration hs w v)
  | noticeMaskWrite v => exact keeps_unlessHeld ht hs (h.same hs (.of_eq rfl rfl rfl rfl))
  | readOutSelectorWrite v => exact keeps_unlessHeld ht hs (h.same hs (writeSelector_same s v))
  | noticeHeadRead n => exact keeps_unlessHeld ht hs (h.same hs (readFrame_same s 16 n))
  | noticeStatusRead n => exact keeps_unlessHeld ht hs (h.same hs (readFrame_same s 18 n))
  | registerWrite w v => exact keeps_unlessHeld ht hs (h.same hs (writeOther_same s w v))
  | badAddress op address =>
    simp only [Machine.exec, execBadAddress] at ht
    split at ht
    · exact keeps_unlessHeld ht hs (h.same hs (endFrame_same s _ _))
    · cases ht

theorem idle (hs : P s) : P s.idle := by
  refine keeps_unlessHeld rfl hs ?_
  split
  · exact h.takeFromWires hs _
  · exact hs

/-- Every step keeps `P`: the step of a command, of a frame, and of a part that no command waits for. -/
theorem everyStepKeeps : EveryStepKeeps P := by
  intro s t hs ht
  unfold step at ht
  split at ht
  · rename_i c rest _
    have hrest : P { s with pending := rest } := h.same hs (.of_eq rfl rfl rfl rfl)
    exact h.exec hrest ht
  · rcases s.nextFrame_cases with ⟨f, rest, -, -, hf⟩ | ⟨-, hf⟩
    · have hrest : P { s with frames := rest } := h.same hs (.of_eq rfl rfl rfl rfl)
      rw [hf] at ht
      cases hd : decodeFrame f with
      | command c => rw [hd] at ht; exact h.exec hrest ht
      | quiet q => rw [hd] at ht; cases ht; exact h.same hrest (quietFrame_same _ q)
    · rw [hf] at ht; cases ht; exact h.idle hs

end HappeningLaw

end Sys2Proof.Machine
end

section
namespace Sys2Proof.Machine

open Sys2Proof

/-! ## The laws when a request is accepted (R2, R8, R15, R144) -/

/-- The entry of an accepted request. -/
def State.entrant (s : State) (p : Port) (m : Request) : Entry := { s.newEntry p m with state := s.entryStateAt p m }

theorem enter_entries (s : State) (p : Port) (m : Request) : (s.enter p m).entries = s.entries ++ [s.entrant p m] := rfl

theorem mem_enter {s : State} {p : Port} {m : Request} {e : Entry} (he : e ∈ (s.enter p m).entries) :
    e ∈ s.entries ∨ e = s.entrant p m := by
  simpa [enter_entries] using he

/-- A request enters DEFERRED, or HELD with the cause of a BARRIER or the causes found at its acceptance. -/
theorem entryStateAt_cases (s : State) (p : Port) (m : Request) :
    (∃ g, s.deferringGuard p m = some g ∧ s.entryStateAt p m = .deferred g) ∨
    (m.kind = .barrier ∧ s.entryStateAt p m = .held ⟨false, false, true⟩) ∨
    (m.kind ≠ .barrier ∧ s.entryStateAt p m = .held (s.causesNow (s.newEntry p m))) := by
  unfold State.entryStateAt
  split
  · exact .inl ⟨_, ‹_›, rfl⟩
  · split
    · exact .inr (.inl ⟨‹_›, rfl⟩)
    · exact .inr (.inr ⟨‹_›, rfl⟩)

theorem entrant_phase_le (s : State) (p : Port) (m : Request) : (s.entrant p m).phase ≤ 1 := by
  have hstate : (s.entrant p m).state = s.entryStateAt p m := rfl
  rcases entryStateAt_cases s p m with ⟨g, -, h⟩ | ⟨-, h⟩ | ⟨-, h⟩ <;> simp [Entry.phase, hstate, h]

theorem TableLaw.enter {s : State} {p : Port} {m : Request} (hm : s.arrivalCheck p m = none) (hs : TableLaw s) :
    TableLaw (s.enter p m) := by
  obtain ⟨honline, -, -, hforbids⟩ := arrivalCheck_eq_none hm
  obtain ⟨hlen, hquota, -⟩ := hs
  simp only [State.quotaForbids, Bool.or_eq_false_iff, decide_eq_false_iff_not, not_le, not_lt] at hforbids
  refine ⟨?_, fun q => ?_, fun hstop => ?_⟩
  · rw [enter_entries, List.length_append, List.length_singleton]; omega
  · have hcount : (s.enter p m).entryCount q = s.entryCount q + if p = q then 1 else 0 := by
      rw [State.entryCount, enter_entries, List.filter_append, List.length_append]
      split <;> simp_all [State.entryCount, State.entrant, State.newEntry]
    rw [hcount]
    split
    · rename_i hpq; exact hpq ▸ hforbids.1
    · exact hquota q
  · have : (s.enter p m).partState = .online := honline
    simp [this] at hstop

theorem BypassLaw.enter {s : State} (p : Port) (m : Request) (hs : BypassLaw s) : BypassLaw (s.enter p m) := by
  intro e he
  rcases mem_enter he with he | rfl
  · exact hs e he
  · exact ⟨Nat.zero_le _, fun _ => rfl⟩

theorem ArrivalLaw.enter {s : State} (p : Port) (m : Request) (hs : ArrivalLaw s) : ArrivalLaw (s.enter p m) := by
  obtain ⟨hsorted, hnext⟩ := hs
  refine ⟨?_, fun e he => ?_⟩
  · rw [enter_entries, List.pairwise_append]
    refine ⟨hsorted, List.pairwise_singleton _ _, fun a ha b hb => ?_⟩
    obtain rfl := List.mem_singleton.mp hb
    exact hnext a ha
  · rcases mem_enter he with he | rfl
    · exact (hnext e he).trans (Nat.lt_succ_self _)
    · exact Nat.lt_succ_self s.nextArrival

theorem PortTagLaw.enter {s : State} {p : Port} {m : Request} (hm : s.arrivalCheck p m = none) (hs : PortTagLaw s) :
    PortTagLaw (s.enter p m) := by
  obtain ⟨-, -, htag, -⟩ := arrivalCheck_eq_none hm
  unfold PortTagLaw
  rw [enter_entries, List.pairwise_append]
  refine ⟨hs, List.pairwise_singleton _ _, fun a ha b hb => ?_⟩
  obtain rfl := List.mem_singleton.mp hb
  rintro ⟨hp, ht⟩
  have := (List.any_eq_false.mp htag) a ha
  exact this (by simp [hp, ht, State.entrant, State.newEntry])

/-- A request that is not malformed names a line exactly when it is no BARRIER (R141). -/
theorem line_eq_none_iff_of_wellFormed {m : Request} (h : malformed m = false) : m.line = none ↔ m.kind = .barrier := by
  simp only [malformed, Bool.or_eq_false_iff] at h
  obtain ⟨⟨⟨-, hbarrier⟩, hother⟩, -⟩ := h
  constructor
  · intro hl
    by_contra hk
    simp [hl, hk] at hother
  · intro hk
    simpa [hk] using hbarrier

theorem KindLaw.enter {s : State} {p : Port} {m : Request} (hm : s.arrivalCheck p m = none) (hs : KindLaw s) :
    KindLaw (s.enter p m) := by
  obtain ⟨-, hform, -, -⟩ := arrivalCheck_eq_none hm
  have hline := line_eq_none_iff_of_wellFormed hform
  intro e he
  rcases mem_enter he with he | rfl
  · exact hs e he
  · refine ⟨hline, fun hk => .inl ?_⟩
    have hk : m.kind = .barrier := hk
    have hstate : (s.entrant p m).state = s.entryStateAt p m := rfl
    have hdefer : s.deferringGuard p m = none := by simp [State.deferringGuard, hline.mpr hk]
    rw [Entry.isHeld_iff, hstate]
    rcases entryStateAt_cases s p m with ⟨g, hg, -⟩ | ⟨-, h⟩ | ⟨hne, -⟩
    · simp [hdefer] at hg
    · exact ⟨_, h⟩
    · exact (hne hk).elim

theorem LineLaw.enter {s : State} (p : Port) (m : Request) (hs : LineLaw s) : LineLaw (s.enter p m) := by
  unfold LineLaw
  rw [enter_entries, List.pairwise_append]
  refine ⟨hs, List.pairwise_singleton _ _, fun a _ b hb => ?_⟩
  obtain rfl := List.mem_singleton.mp hb
  rintro ⟨-, -, hu⟩
  have hle := entrant_phase_le s p m
  rw [Entry.isUnderWay_iff_phase] at hu
  omega

/-- The youngest entry is no older entry of any other. -/
theorem entrant_not_older {s : State} {p : Port} {m : Request} {e : Entry} (he : e.arrival ≤ s.nextArrival) :
    (s.entrant p m).isOlderAtPort e = false := by
  simp [Entry.isOlderAtPort, State.entrant, State.newEntry, Nat.not_lt.mpr he]

theorem CauseLaw.enter {s : State} (p : Port) (m : Request) (ha : ArrivalLaw s) (hs : CauseLaw s) :
    CauseLaw (s.enter p m) := by
  have hconds : ∀ e : Entry, e.arrival ≤ s.nextArrival →
      (s.enter p m).portOrderHolds e = s.portOrderHolds e ∧ (s.enter p m).barrierHolds e = s.barrierHolds e := by
    intro e he
    have hconfig : (s.enter p m).config = s.config := rfl
    simp only [State.portOrderHolds, State.barrierHolds, enter_entries, List.any_append, List.any_cons, List.any_nil,
      entrant_not_older he, Bool.false_and, Bool.or_false, hconfig, and_self]
  intro e he c hc hk
  rcases mem_enter he with he | rfl
  · obtain ⟨hpo, hba⟩ := hconds e (ha.2 e he).le
    rw [hpo, hba]
    exact hs e he c hc hk
  · obtain ⟨hpo, hba⟩ := hconds (s.entrant p m) le_rfl
    have hstate : s.entryStateAt p m = .held c := hc
    rw [hpo, hba]
    rcases entryStateAt_cases s p m with ⟨g, -, h⟩ | ⟨hb, -⟩ | ⟨-, h⟩
    · simp [h] at hstate
    · exact (hk hb).elim
    · rw [h] at hstate
      cases hstate
      exact ⟨rfl, id, id⟩

/-! ## Laws that speak of requests and bypass counts alone (R1, R3, R4, R100) -/

/-- A law that is kept while every entry keeps its request and its bypass count is kept by every command, if acceptances and
configuration writes keep it and it holds of an empty table. -/
theorem HappeningLaw.of_keeps {P : State → Prop}
    (keeps : ∀ {s t : State}, TableMoves (Each (Entry.Keeps s.config.bypassLimit)) s t → P s → P t)
    (enters : ∀ {s : State} {p : Port} {m : Request}, s.arrivalCheck p m = none → P s → P (s.enter p m))
    (empty : ∀ {s : State}, s.entries = [] → P s)
    (stores : ∀ {s : State} (c : Configuration), s.takesConfiguration = true → P s → P (s.storeConfiguration c)) :
    HappeningLaw P P where
  within := id
  follows h := keeps h.keeps
  enters := enters
  binds l t _ := keeps ((bind_moves _ _ l t).mono fun _ _ _ => State.Bound.keeps)
  settles := keeps (settle_keepsEntries _ _)
  same hs h := keeps (TableFollows.of_same h).keeps hs
  places _ _ := keeps (placeEntry_follows _ _ _).keeps
  empty := empty
  stores := stores

theorem TableMoves.requests_of_keeps {limit : Nat} {s t : State} (h : TableMoves (Each (Entry.Keeps limit)) s t) :
    TableMoves (Each Entry.SameRequest) s t := h.each_mono fun _ _ hxy => hxy.toSameRequest

theorem TableLaw.of_empty {s : State} (h : s.entries = []) : TableLaw s := by
  simp [TableLaw, State.entryCount, h]

/-- A configuration write finds the table empty: it is taken in OFFLINE and QUIESCED alone (R153, R161). -/
theorem TableLaw.entries_eq_nil {s : State} (hs : TableLaw s) (h : s.takesConfiguration = true) : s.entries = [] :=
  hs.2.2 (by simpa [State.takesConfiguration] using h)

theorem tableLaw_happening : HappeningLaw TableLaw TableLaw :=
  .of_keeps (fun h => .of_moves h.requests_of_keeps) TableLaw.enter .of_empty
    fun _ hc hs => .of_empty (hs.entries_eq_nil hc)

theorem bypassLaw_happening :
    HappeningLaw (fun s => TableLaw s ∧ BypassLaw s) (fun s => TableLaw s ∧ BypassLaw s) :=
  have empty : ∀ {s : State}, s.entries = [] → TableLaw s ∧ BypassLaw s := fun h =>
    ⟨.of_empty h, by simp [BypassLaw, h]⟩
  .of_keeps (fun h hs => ⟨hs.1.of_moves h.requests_of_keeps, hs.2.of_moves h⟩)
    (fun hm hs => ⟨hs.1.enter hm, hs.2.enter _ _⟩) empty fun _ hc hs => empty (hs.1.entries_eq_nil hc)

theorem arrivalLaw_happening : HappeningLaw ArrivalLaw ArrivalLaw :=
  .of_keeps (fun h => .of_moves h.requests_of_keeps) (fun _ => .enter _ _) (fun h => by simp [ArrivalLaw, h])
    fun _ _ hs => hs

theorem portTagLaw_happening : HappeningLaw PortTagLaw PortTagLaw :=
  .of_keeps (fun h => .of_moves h.requests_of_keeps) PortTagLaw.enter (fun h => by simp [PortTagLaw, h])
    fun _ _ hs => hs

/-! ## One operation a line (R7) -/

/-- No entry of the line of an entry that is due is under way. -/
theorem not_underWay_of_due {s : State} (hs : ArrivalLaw s) {e x : Entry} (he : e ∈ s.entries) (hd : s.isDue e = true)
    (hk : e.kind ≠ .barrier) (hl : e.line ≠ none) (hx : x ∈ s.entries) (hxe : x.line = e.line) : x.isUnderWay = false := by
  obtain ⟨l, hl⟩ := Option.ne_none_iff_exists'.mp hl
  exact (((State.isDue_line_iff hs he hk hl).mp hd).2 x hx hxe).1

/-- A check brings under way no entry but the one it examines, and that one only if it has a line. -/
theorem State.Examined.underWay {s : State} {e x y : Entry} (h : s.Examined e x (some y)) (hy : y.isUnderWay = true) :
    x.isUnderWay = true ∨ x.arrival = e.arrival ∧ e.line ≠ none := by
  cases h with
  | answered => simp [Entry.isUnderWay_iff_phase] at hy
  | ready hx hl => exact .inr ⟨hx, hl⟩
  | stays => exact .inl hy
  | rejoins => simp [Entry.isUnderWay] at hy

theorem examine_kindLaw {s : State} (ha : ArrivalLaw s) {e : Entry} (he : e ∈ s.entries) (hs : KindLaw s) :
    KindLaw (s.examine e) := by
  intro y hy
  obtain ⟨x, hx, hxy⟩ := (examine_moves s e).entries.mem hy
  obtain ⟨hline, hbarrier⟩ := hs x hx
  cases hxy with
  | answered => exact ⟨hline, fun _ => .inr rfl⟩
  | ready hxe hl =>
    obtain rfl := ha.unique hx he hxe
    exact ⟨hline, fun hk => (hl (hline.mpr hk)).elim⟩
  | stays => exact hs _ hx
  | rejoins => exact ⟨hline, fun _ => .inl rfl⟩

theorem examine_lineLaw {s : State} (ha : ArrivalLaw s) (hk : KindLaw s) {e : Entry} (he : e ∈ s.entries)
    (hd : s.isDue e = true) (hs : LineLaw s) : LineLaw (s.examine e) := by
  refine (examine_moves s e).entries.pairwise (ha.1.and hs) fun a ha' b hb' a' b' hab haa hbb => ?_
  obtain ⟨hlt, hno⟩ := hab
  have haline : a'.line = a.line := (haa.keeps (limit := 0) a' rfl).line
  have hbline : b'.line = b.line := (hbb.keeps (limit := 0) b' rfl).line
  have hfree : ∀ x ∈ s.entries, e.line ≠ none → x.line = e.line → x.isUnderWay = false := fun x hx hl =>
    not_underWay_of_due ha he hd (fun hb => hl ((hk e he).1.mpr hb)) hl hx
  rintro ⟨hl, hau, hbu⟩
  rw [haline, hbline] at hl
  rcases haa.underWay hau with hau | ⟨hae, hel⟩
  · rcases hbb.underWay hbu with hbu | ⟨hbe, hel⟩
    · exact hno ⟨hl, hau, hbu⟩
    · obtain rfl := ha.unique hb' he hbe
      simp [hfree a ha' hel hl] at hau
  · obtain rfl := ha.unique ha' he hae
    rcases hbb.underWay hbu with hbu | ⟨hbe, -⟩
    · simp [hfree b hb' hel hl.symm] at hbu
    · omega

/-- The laws of the lines together: places in the arrival order, lines and kinds, and one operation a line. -/
def LineLaws (s : State) : Prop := ArrivalLaw s ∧ KindLaw s ∧ LineLaw s

theorem LineLaws.follows {limit : Nat} {s t : State} (h : TableFollows limit s t) (hs : LineLaws s) : LineLaws t :=
  ⟨hs.1.of_moves h.requests, hs.2.1.of_moves h.moves, hs.2.2.of_moves h.moves⟩

theorem lineLaws_happening : HappeningLaw LineLaws LineLaws where
  within := id
  follows := LineLaws.follows
  enters hm hs := ⟨hs.1.enter _ _, hs.2.1.enter hm, hs.2.2.enter _ _⟩
  binds l t he hs := hs.follows (bind_follows hs.1 he l t)
  settles {s} hs := settle_keeps LineLaws (fun t ht => ht.follows (releaseCauses_follows 0 t))
    (fun t e he hd ⟨ha, hk, hl⟩ => ⟨ha.examine e, examine_kindLaw ha he hk, examine_lineLaw ha hk he hd hl⟩) s hs
  same {s t} hs h := hs.follows (limit := 0) (.of_same h)
  places {s e} _ _ hs := hs.follows (placeEntry_follows 0 s e)
  empty h := by simp [LineLaws, ArrivalLaw, KindLaw, LineLaw, h]
  stores _ _ hs := hs

/-! ## Nothing due between happenings (R8, R9, R13, R15, R16) -/

theorem SameTable.isDue {s t : State} (h : SameTable s t) (e : Entry) : t.isDue e = s.isDue e := by
  simp only [State.isDue, State.isLineHead, State.lineQueue, h.entries]

theorem SameTable.portOrderHolds {s t : State} (h : SameTable s t) (e : Entry) :
    t.portOrderHolds e = s.portOrderHolds e := by
  simp only [State.portOrderHolds, h.entries, h.config]

theorem SameTable.barrierHolds {s t : State} (h : SameTable s t) (e : Entry) : t.barrierHolds e = s.barrierHolds e := by
  simp only [State.barrierHolds, h.entries]

theorem NothingDueLaw.same {s t : State} (hs : NothingDueLaw s) (h : SameTable s t) : NothingDueLaw t := by
  simpa only [NothingDueLaw, h.isDue, h.portOrderHolds, h.barrierHolds, h.entries] using hs

theorem any_eq_of_filter_eq {es fs : List Entry} {q : Entry → Bool} (h : fs.filter q = es.filter q) :
    fs.any q = es.any q := by
  have hany : ∀ l : List Entry, l.any q = (l.filter q).any q := fun l => by simp [List.any_filter]
  rw [hany fs, hany es, h]

/-- The removal of an ANSWERED entry is seen by nothing that does not look at ANSWERED entries. -/
theorem placeEntry_filter {s : State} (hs : ArrivalLaw s) {e : Entry} (he : e ∈ s.entries) {q : Entry → Bool}
    (hq : q e = false) : (s.placeEntry e).entries.filter q = s.entries.filter q := by
  refine (placeEntry_moves s e).entries.filter_eq q fun x hx o h => ?_
  cases h with
  | leaves hxe => rw [hs.unique hx he hxe, hq]; simp
  | stays => exact ⟨fun _ => rfl, fun y hy hqy => by cases hy; exact hqy⟩

theorem NothingDueLaw.placeEntry {s : State} (ha : ArrivalLaw s) (hs : NothingDueLaw s) {e : Entry} (he : e ∈ s.entries)
    (hans : e.isAnswered = true) : NothingDueLaw (s.placeEntry e) := by
  have hphase := e.isAnswered_iff_phase.mp hans
  have hheld : e.isHeld = false := by rw [Bool.eq_false_iff, ne_eq, e.isHeld_iff_phase]; omega
  have hunder : e.isUnderWay = false := by rw [Bool.eq_false_iff, ne_eq, e.isUnderWay_iff_phase]; omega
  have hwaits : (e.isDeferred || e.isHeld || e.state == .ready) = false := by
    have := e.waits_iff_phase
    rw [Bool.eq_false_iff]
    simp only [ne_eq, Bool.or_eq_true, beq_iff_eq, or_assoc, this]
    omega
  have hpo : ∀ x, (s.placeEntry e).portOrderHolds x = s.portOrderHolds x := fun x => by
    simp only [State.portOrderHolds, (placeEntry_follows 0 s e).moves.config]
    rw [any_eq_of_filter_eq (placeEntry_filter ha he (by simp only [hwaits, Bool.and_false]))]
  have hba : ∀ x, (s.placeEntry e).barrierHolds x = s.barrierHolds x := fun x =>
    any_eq_of_filter_eq (placeEntry_filter ha he (by simp [hans]))
  have hdue : ∀ x, (s.placeEntry e).isDue x = s.isDue x := fun x => by
    simp only [State.isDue, State.isLineHead, State.lineQueue, List.all_eq_not_any_not]
    rw [any_eq_of_filter_eq (placeEntry_filter ha he (by simp [hans]))]
    simp only [fun l : Line => placeEntry_filter ha he (q := fun x => x.line == some l && x.isUnderWay) (by simp [hunder]),
      fun l : Line => placeEntry_filter ha he (q := fun x => x.line == some l && x.isHeld) (by simp [hheld])]
  have hmem : ∀ x ∈ (s.placeEntry e).entries, x ∈ s.entries := fun x hx => by
    obtain ⟨y, hy, hyx⟩ := (placeEntry_moves s e).entries.mem hx
    cases hyx; exact hy
  refine ⟨fun x hx => by rw [hdue]; exact hs.1 x (hmem x hx), fun x hx c hc hk => ?_⟩
  rw [hpo, hba]
  exact hs.2 x (hmem x hx) c hc hk

theorem nothingDueLaw_happening :
    HappeningLaw (fun s => ArrivalLaw s ∧ TableLaw s ∧ CauseLaw s) (fun s => ArrivalLaw s ∧ TableLaw s ∧ NothingDueLaw s) :=
  have empty : ∀ {s : State}, s.entries = [] → ArrivalLaw s ∧ TableLaw s ∧ NothingDueLaw s := fun h =>
    ⟨by simp [ArrivalLaw, h], .of_empty h, by simp [NothingDueLaw, h]⟩
  { within := fun ⟨ha, ht, hn⟩ => ⟨ha, ht, hn.causeLaw⟩
    follows := fun h ⟨ha, ht, hc⟩ => ⟨ha.of_moves h.requests, ht.of_moves h.requests, h.causes hc⟩
    enters := fun hm ⟨ha, ht, hc⟩ => ⟨ha.enter _ _, ht.enter hm, hc.enter _ _ ha⟩
    binds := fun l t he ⟨ha, ht, hc⟩ =>
      have h := bind_follows ha he l t
      ⟨ha.of_moves h.requests, ht.of_moves h.requests, h.causes hc⟩
    settles := fun ⟨ha, ht, hc⟩ =>
      ⟨ha.of_moves (settle_requests _), ht.of_moves (settle_requests _), nothingDueLaw_settle ha hc⟩
    same := fun ⟨ha, ht, hn⟩ h =>
      have hf := TableFollows.of_same (limit := 0) h
      ⟨ha.of_moves hf.requests, ht.of_moves hf.requests, hn.same h⟩
    places := fun he hans ⟨ha, ht, hn⟩ =>
      have h := placeEntry_follows 0 _ _
      ⟨ha.of_moves h.requests, ht.of_moves h.requests, hn.placeEntry ha he hans⟩
    empty := empty
    stores := fun _ hc ⟨_, ht, _⟩ => empty (ht.entries_eq_nil hc) }

/-! ## The laws that every step keeps -/

/-- Settles O53: both laws speak of the entries' requests and bypass counts alone, so every command keeps them. -/
theorem stepKeepsTableLaw : Obligations.StepKeepsTableLaw :=
  ⟨tableLaw_happening.everyStepKeeps, bypassLaw_happening.everyStepKeeps⟩

/-- Settles O54: both laws speak of the entries' requests alone, so every command keeps them. -/
theorem stepKeepsArrivalAndPortTagLaws : Obligations.StepKeepsArrivalAndPortTagLaws :=
  ⟨arrivalLaw_happening.everyStepKeeps, portTagLaw_happening.everyStepKeeps⟩

/-- Settles O56: an entry comes to be under way by its own check alone, which is due only while its line is free. -/
theorem stepKeepsLineLaw : Obligations.StepKeepsLineLaw := lineLaws_happening.everyStepKeeps

/-- Settles O57: within a happening no hold cause is missing, and the checks that end it leave none that has ended. -/
theorem stepKeepsNothingDueLaw : Obligations.StepKeepsNothingDueLaw := nothingDueLaw_happening.everyStepKeeps

end Sys2Proof.Machine
end

section
namespace Sys2Proof.Machine

open Sys2Proof

/-! ## The entries of a reset port (R19, R22) -/

/-- In the arrival order of u, the entries of port p are those for which `W` holds. -/
def PortEntries (p : Port) (W : Entry → Prop) (u : State) : Prop :=
  ArrivalLaw u ∧ ∀ x : Entry, x.port = p → (x ∈ u.entries ↔ W x)

section PortEntries

variable {p : Port} {W : Entry → Prop} {u : State}

/-- The checks leave a port whose operations are all outstanding as it is. -/
theorem PortEntries.settle (hW : ∀ x, W x → x.isOutstanding = true) (h : PortEntries p W u) :
    PortEntries p W u.settle := by
  obtain ⟨ha, hp⟩ := h
  have ha' : ArrivalLaw u.settle := ha.of_moves (settle_requests u)
  have hkept : ∀ x ∈ u.entries, x.isOutstanding = true → x ∈ u.settle.entries := fun x hx ho =>
    (List.mem_filter.mp (settle_outstanding ha ▸ List.mem_filter.mpr ⟨hx, ho⟩)).1
  refine ⟨ha', fun x hx => ⟨fun hmem => ?_, fun hw => hkept x ((hp x hx).mpr hw) (hW x hw)⟩⟩
  obtain ⟨y, hy, hyx⟩ := (settle_requests u).entries.mem hmem
  have hyx := hyx x rfl
  have hwy := (hp y (hyx.port ▸ hx)).mp hy
  rw [ha'.unique hmem (hkept y hy (hW y hwy)) hyx.arrival]
  exact hwy

/-- The release of a guard changes DEFERRED entries alone. -/
theorem PortEntries.releaseGuard (hW : ∀ x, W x → x.isOutstanding = true) (h : PortEntries p W u) (g : GuardNo) :
    PortEntries p W (u.releaseGuard g) := by
  obtain ⟨ha, hp⟩ := h
  refine ⟨ha.of_moves (releaseGuard_follows 0 u g).requests, fun x hx => ?_⟩
  have hfilter : (u.releaseGuard g).entries.filter (·.port == p) = u.entries.filter (·.port == p) :=
    (releaseGuard_moves u g).entries.filter_eq _ fun y hy o ho => by
      cases ho with
      | stays => exact ⟨fun _ => rfl, fun z hz hzp => by cases hz; exact hzp⟩
      | rejoins k hk =>
        refine ⟨fun hyp => ?_, fun z hz hzp => by cases hz; exact hzp⟩
        have hout := hW y ((hp y (by simpa using hyp)).mp hy)
        simp [Entry.isOutstanding_iff_phase, Entry.phase_of_deferred hk] at hout
  rw [← hp x hx]
  have hmem : ∀ l : List Entry, x ∈ l ↔ x ∈ l.filter (·.port == p) := fun l => by simp [hx]
  rw [hmem, hfilter, ← hmem]

theorem PortEntries.resetGuards (hW : ∀ x, W x → x.isOutstanding = true) (h : PortEntries p W u) (q : Port) :
    PortEntries p W (u.resetGuards q) := by
  unfold State.resetGuards
  refine PortEntries.settle hW (List.foldlRecOn allGuards _ h fun t ht g _ => ?_)
  unfold State.releaseIfOwned
  split
  · exact ht.releaseGuard hW g
  · exact ht

end PortEntries

/-- What a port reset makes of the entries of s at the port. -/
def State.OrphansOf (s : State) (x : Entry) : Prop :=
  ∃ e ∈ s.entries, ∃ g : Tag, (e.state = .issued g ∨ e.state = .orphaned g) ∧ x = { e with state := .orphaned g }

theorem State.OrphansOf.isOutstanding {s : State} {x : Entry} (h : s.OrphansOf x) : x.isOutstanding = true := by
  obtain ⟨e, -, g, -, rfl⟩ := h
  rfl

theorem Entry.setState_eq_self {e : Entry} {st : EntryState} (h : e.state = st) : { e with state := st } = e := by
  subst h; rfl

theorem Entry.orphan_of_issued {e : Entry} {g : Tag} (h : e.state = .issued g) :
    e.orphan e.port = { e with state := .orphaned g } := by
  simp [Entry.orphan, h]

theorem Entry.orphan_of_not_issued {e : Entry} (p : Port) (h : e.isIssued = false) : e.orphan p = e := by
  unfold Entry.isIssued at h
  unfold Entry.orphan
  split
  · split <;> simp_all
  · rfl

/-- An entry of the reset port that is ORPHANED after step 4 was ISSUED or ORPHANED with the same tag. -/
theorem Entry.orphan_isOrphaned_iff (e x : Entry) :
    (e.orphan e.port = x ∧ x.isOrphaned = true) ↔
      ∃ g : Tag, (e.state = .issued g ∨ e.state = .orphaned g) ∧ x = { e with state := .orphaned g } := by
  constructor
  · rintro ⟨rfl, ho⟩
    cases hi : e.isIssued with
    | true =>
      obtain ⟨g, hg⟩ := e.isIssued_iff.mp hi
      exact ⟨g, .inl hg, Entry.orphan_of_issued hg⟩
    | false =>
      rw [Entry.orphan_of_not_issued _ hi] at ho ⊢
      obtain ⟨g, hg⟩ := e.isOrphaned_iff.mp ho
      exact ⟨g, .inr hg, (Entry.setState_eq_self hg).symm⟩
  · rintro ⟨g, hg | hg, rfl⟩
    · exact ⟨Entry.orphan_of_issued hg, rfl⟩
    · have hi : e.isIssued = false := by simp [Entry.isIssued, hg]
      rw [Entry.setState_eq_self hg, Entry.orphan_of_not_issued _ hi]
      exact ⟨rfl, e.isOrphaned_iff.mpr ⟨g, hg⟩⟩

theorem Entry.orphan_port (e : Entry) (p : Port) : (e.orphan p).port = e.port := (Entry.Follows.orphan 0 e p).port

/-- Step 4 of a port reset leaves the port its orphans alone. -/
theorem resetEntries_portEntries {s u : State} (ha : ArrivalLaw s) (hu : SameTable s u) (p : Port) :
    PortEntries p s.OrphansOf (u.resetEntries p) := by
  have hau : ArrivalLaw u := ha.of_moves (TableFollows.of_same (limit := 0) hu).requests
  have hmoves := ((orphanEntries_follows 0 u p).trans
    (removeEntries_follows 0 _ fun e => e.port == p && !e.isOrphaned)).requests
  refine PortEntries.settle (fun x => State.OrphansOf.isOutstanding) ⟨hau.of_moves hmoves, fun x hx => ?_⟩
  rw [State.removeEntries_entries, State.setEntries_entries, hu.entries, List.mem_filter, List.mem_map]
  have hkept : (!(x.port == p && !x.isOrphaned)) = x.isOrphaned := by simp [hx]
  rw [hkept]
  constructor
  · rintro ⟨⟨e, he, hex⟩, ho⟩
    obtain rfl : e.port = p := by rw [← hx, ← hex, Entry.orphan_port]
    exact ⟨e, he, (e.orphan_isOrphaned_iff x).mp ⟨hex, ho⟩⟩
  · rintro ⟨e, he, h⟩
    obtain rfl : e.port = p := by obtain ⟨g, -, rfl⟩ := h; exact hx
    obtain ⟨hex, ho⟩ := (e.orphan_isOrphaned_iff x).mpr h
    exact ⟨⟨e, he, hex⟩, ho⟩

/-- Settles O12: step 4 of the reset leaves the port its orphans alone, and neither the checks nor the release of its guards
touches an entry whose operation is outstanding. -/
theorem portResetOrphansIssuedEntries : Obligations.PortResetOrphansIssuedEntries := by
  intro s t p hpor ha ht x hx
  have hreset : t = s.resetPort p := by
    have hexec : exec (.prstNAsserted p) s = .next (s.unlessHeld fun s => s.resetPort p) := rfl
    rw [hexec] at ht
    cases ht
    simp [State.unlessHeld, hpor]
  have hclear : SameTable s ((s.setPort p ⟨.fenced, []⟩).clearHolders p) := .of_eq rfl rfl rfl rfl
  have hports := (resetEntries_portEntries ha hclear p).resetGuards (fun _ => State.OrphansOf.isOutstanding) p
  rw [hreset, State.resetPort, State.endFencing_entries]
  exact hports.2 x hx

/-! ## The checks of a happening (R9 to R16, R77) -/

/-- Settles O13: the release of causes and every check stay within the frame, and so do they in a row. -/
theorem checksStayWithinTheTable : Obligations.ChecksStayWithinTheTable := settle_tableOnly

theorem Entry.not_underWay_iff (x : Entry) :
    x.isUnderWay = false ↔ x.state ≠ .ready ∧ (∀ t, x.state ≠ .issued t) ∧ ∀ t, x.state ≠ .orphaned t := by
  unfold Entry.isUnderWay
  cases x.state <;> simp

/-- Which entry is due, in the fields of the table (R9, R12, R15). -/
theorem State.isDue_iff {s : State} (ha : ArrivalLaw s) (hs : KindLaw s) {e : Entry} (he : e ∈ s.entries) :
    s.isDue e = true ↔
      (e.kind ≠ .barrier ∧ e.state = .held ⟨true, false, false⟩ ∧
        ∀ x ∈ s.entries, x.line = e.line →
          x.state ≠ .ready ∧ (∀ t, x.state ≠ .issued t) ∧ (∀ t, x.state ≠ .orphaned t) ∧
          ∀ c, x.state = .held c → e.arrival ≤ x.arrival) ∨
      (e.kind = .barrier ∧ (∃ c, e.state = .held c) ∧
        ∀ x ∈ s.entries, x.port = e.port → x.arrival < e.arrival → ∃ st n, x.state = .answered st n) := by
  by_cases hk : e.kind = .barrier
  · rw [State.isDue_barrier_iff hk]
    simp [hk]
  · obtain ⟨l, hl⟩ := Option.ne_none_iff_exists'.mp fun hnone => hk ((hs e he).1.mp hnone)
    rw [State.isDue_line_iff ha he hk hl]
    simp [hk, Entry.not_underWay_iff, Entry.isHeld_iff, and_assoc]

/-- After the checks no HELD entry carries a cause that has ended (R13, R16). -/
theorem settle_causes_hold (s : State) {e : Entry} (he : e ∈ s.settle.entries) {c : HoldCauses} (hc : e.state = .held c)
    (hk : e.kind ≠ .barrier) :
    (c.portOrder = true → s.settle.portOrderHolds e = true) ∧ (c.barrier = true → s.settle.barrierHolds e = true) := by
  obtain ⟨u, -, hu, -⟩ := settle_ends (fun _ => True) (fun _ _ => trivial) (fun _ _ _ _ _ => trivial) s trivial
  rw [hu] at he ⊢
  obtain ⟨x, -, c', -, -, rfl, -, -⟩ := releaseCauses_causes he hc hk
  simp

/-- Settles O14: the loop of the checks ends, for every state, with a release of causes that leaves nothing due. -/
theorem checksRunOldestFirstUntilNoneIsDue : Obligations.ChecksRunOldestFirstUntilNoneIsDue := by
  intro s
  refine ⟨fun x => ⟨x.isDeferred_iff, x.isHeld_iff, x.isIssued_iff, x.isOrphaned_iff, x.isAnswered_iff⟩,
    fun ha hk e he => State.isDue_iff ha hk he, settle_nothing_due s, fun e he c hc hk => settle_causes_hold s he hc hk,
    fun e => ⟨s.portOrderHolds_iff e, s.barrierHolds_iff e⟩, ?_,
    fun hnone => settle_of_none (by simpa using hnone), fun e => settle_of_some⟩
  have hrelease : s.releaseCause = fun e => match e.state with
      | .held c =>
        if e.kind = .barrier then e
        else { e with state := .held ⟨c.line, c.portOrder && s.portOrderHolds e, c.barrier && s.barrierHolds e⟩ }
      | _ => e := by
    funext e
    unfold State.releaseCause
    cases e.state <;> rfl
  rw [State.releaseCauses, hrelease]
  rfl

theorem State.listed_iff (s : State) (l : Line) : s.listed l = true ↔ ∃ f ∈ s.faults, f.line = l := by
  simp [State.listed]

/-- The fault check answers POISONED on a listed line, but for a full-line WRITE (R77). -/
theorem State.poisons_iff (s : State) (e : Entry) (l : Line) :
    s.poisons e l = true ↔ (∃ f ∈ s.faults, f.line = l) ∧ ¬ (e.kind = .write ∧ e.mask = none) := by
  rw [State.poisons, Bool.and_eq_true, s.listed_iff]
  cases e.mask <;> simp

theorem examine_barrier {s : State} {e : Entry} (h : e.line = none) : s.examine e = s.answer e.arrival .ok none := by
  simp [State.examine, h]

theorem examine_poisoned {s : State} {e : Entry} {l : Line} (h : e.line = some l) (hp : s.poisons e l = true) :
    s.examine e = s.answer e.arrival .poisoned none := by
  simp [State.examine, h, hp]

theorem examine_judged {s : State} {e : Entry} {l : Line} (h : e.line = some l) (hp : s.poisons e l = false)
    (hk : e.kind = .writeConditional) : s.examine e = s.judge e l := by
  simp [State.examine, h, hp, hk]

theorem examine_ready {s : State} {e : Entry} {l : Line} (h : e.line = some l) (hp : s.poisons e l = false)
    (hk : e.kind ≠ .writeConditional) : s.examine e = s.makeReady e := by
  simp [State.examine, h, hp, hk]

/-- Settles O15, by the cases of `examine`: a BARRIER, a poisoned line head, a judged one, and one that becomes READY. -/
theorem lineHeadChecksDecide : Obligations.LineHeadChecksDecide := by
  intro s e
  refine ⟨examine_barrier, fun l hl => ⟨fun hlisted hfull => ?_, fun hpass => ?_⟩⟩
  · exact examine_poisoned hl ((s.poisons_iff e l).mpr ⟨hlisted, hfull⟩)
  · have hp : s.poisons e l = false := by
      rw [Bool.eq_false_iff, ne_eq, s.poisons_iff]
      rintro ⟨⟨f, hf, hfl⟩, hnot⟩
      exact hpass.elim (fun hun => hun f hf hfl) hnot
    exact ⟨examine_judged hl hp, examine_ready hl hp⟩

/-! ## Answers, and the ends of operations (R18, R20, R25, R122, R147) -/

theorem placeIfRoom_full {s : State} (ha : ArrivalLaw s) {e : Entry} (he : e ∈ s.entries)
    (h : 8 ≤ s.ports[e.port].responses.length) : s.placeIfRoom e.arrival = s := by
  have hfull : s.hasPlace e.port = false := decide_eq_false (Nat.not_lt.mpr h)
  simp [State.placeIfRoom, ha.entryAt he, hfull]

theorem placeIfRoom_free {s : State} (ha : ArrivalLaw s) {e : Entry} (he : e ∈ s.entries)
    (h : s.ports[e.port].responses.length < 8) : s.placeIfRoom e.arrival = s.placeEntry e := by
  have hfree : s.hasPlace e.port = true := decide_eq_true h
  simp [State.placeIfRoom, ha.entryAt he, hfree]

/-- The placing of a response takes its entry out of the table, which reports the loss of its last entry (R20, R25). -/
theorem placeEntry_eq {s : State} {e : Entry} (he : e ∈ s.entries) {st : Status} {k : Nat}
    (h : e.state = .answered st k) :
    let v := (s.placeResponse e.port (e.response st)).setEntries (s.entries.filter fun x => x.arrival != e.arrival)
    s.placeEntry e = if v.entries = [] then v.reportEmpty else v := by
  have hne : s.entries ≠ [] := List.ne_nil_of_mem he
  simp only [State.placeEntry, h, State.removeEntries, State.placeResponse_entries, hne, ne_eq, not_false_eq_true,
    true_and, State.setEntries_entries]
  rfl

/-- Settles O16: by its place in the arrival order the entry is found again, and its response placed if there is room. -/
theorem answerPlacesOrWaits : Obligations.AnswerPlacesOrWaits := by
  intro s
  refine ⟨fun n st d => rfl, fun e st k ha he hst => ⟨placeIfRoom_full ha he, fun hfree => ?_⟩⟩
  have hresponse : e.response st =
      ⟨e.portTag, st, none, if isRead e.kind ∧ (st = .ok ∨ st = .okCorrected) then e.data else none, false⟩ := by
    simp [Entry.response]
  rw [placeIfRoom_free ha he hfree, placeEntry_eq he hst, hresponse]
  exact ⟨fun hkept => if_neg hkept, fun hkept => if_pos hkept⟩

/-- Settles O27, by the cases of `endOperation`, `endFencing` and `reportEmpty`. -/
theorem operationEndAnswersOrRemoves : Obligations.OperationEndAnswersOrRemoves := by
  intro s e st d t p
  refine ⟨fun hissued => ?_, fun horphaned => ?_, fun hfenced hnone => ?_, fun hnot => ?_, fun hdrain => ?_,
    fun hdrain => ?_⟩
  · have ho : e.isOrphaned = false := by simp [Entry.isOrphaned, hissued]
    simp [State.endOperation, ho]
  · have ho : e.isOrphaned = true := e.isOrphaned_iff.mpr ⟨t, horphaned⟩
    unfold State.endOperation
    rw [if_pos ho]
    exact ⟨fun hkept => if_neg hkept, fun hkept => if_pos hkept⟩
  · rcases s.endFencing_cases p with ⟨-, -, h⟩ | ⟨h, -⟩
    · exact h
    · exact (h ⟨hfenced, (s.hasOrphan_eq_false p).mpr hnone⟩).elim
  · rcases s.endFencing_cases p with ⟨hf, ho, -⟩ | ⟨-, h⟩
    · rcases hnot with hnf | horphan
      · exact (hnf hf).elim
      · simp [(s.hasOrphan_eq_true p).mpr horphan] at ho
    · exact h
  · rcases s.reportEmpty_cases with ⟨-, h⟩ | ⟨h, -⟩
    · exact h
    · exact (h hdrain).elim
  · rcases s.reportEmpty_cases with ⟨h, -⟩ | ⟨-, h⟩
    · exact (hdrain h).elim
    · exact h

end Sys2Proof.Machine
end

/-! # Reservations and conditional writes (02_reservations_and_conditional_writes.md) -/

section
namespace Sys2Proof.Machine

open Sys2Proof

/-! ## The records a judgement looks up (R34, R39) -/

theorem Reservation.isLiveOn_iff (r : Reservation) (l : Line) : r.isLiveOn l = true ↔ ∃ i, r.state = .live l i := by
  unfold Reservation.isLiveOn
  cases r.state <;> simp

theorem GuardRecord.guards_and_ownedBy_iff (r : GuardRecord) (l : Line) (h : Holder) :
    (r.guards l && r.ownedBy h) = true ↔ ∃ i, r = .active l h i := by
  cases r <;> simp [GuardRecord.guards, GuardRecord.ownedBy]

theorem mem_allGuards (g : GuardNo) : g ∈ allGuards := by
  revert g
  decide

theorem State.ownGuard_eq_none_iff (s : State) (h : Holder) (l : Line) :
    s.ownGuard h l = none ↔ ∀ (g : GuardNo) (i : Nat), s.guards[g] ≠ .active l h i := by
  simp only [State.ownGuard, List.find?_eq_none, mem_allGuards, forall_const, GuardRecord.guards_and_ownedBy_iff,
    not_exists, ne_eq]

theorem State.ownGuard_some {s : State} {h : Holder} {l : Line} {g : GuardNo} (hg : s.ownGuard h l = some g) :
    ∃ i, s.guards[g] = .active l h i := by
  rw [State.ownGuard] at hg
  have hfound := List.find?_some hg
  exact (GuardRecord.guards_and_ownedBy_iff s.guards[g] l h).mp hfound

/-- Where no other record guards the line for the holder, its guard on the line is the one found. -/
theorem State.ownGuard_of_unique {s : State} {h : Holder} {l : Line} {g : GuardNo} {i : Nat}
    (hg : s.guards[g] = .active l h i) (hu : ∀ k : GuardNo, k ≠ g → ∀ j, s.guards[k] ≠ .active l h j) :
    s.ownGuard h l = some g := by
  cases hk : s.ownGuard h l with
  | none => exact ((s.ownGuard_eq_none_iff h l).mp hk g i hg).elim
  | some k =>
    obtain ⟨j, hj⟩ := State.ownGuard_some hk
    by_contra hne
    exact hu k (fun heq => hne (congrArg some heq)) j hj

@[simp] theorem State.setReservation_ownGuard (s : State) (k h : Holder) (r : Reservation) (l : Line) :
    (s.setReservation k r).ownGuard h l = s.ownGuard h l := rfl

/-! ## The outcomes of the judgement (R34 to R39, R59) -/

theorem judge_passes {s : State} {e : Entry} {l : Line}
    (hlive : ∃ i, s.reservations[holderOf e.port e.context].state = .live l i) :
    s.judge e l = s.passJudgement e l :=
  if_pos ((Reservation.isLiveOn_iff _ l).mpr hlive)

theorem judge_fails_as_owner {s : State} {e : Entry} {l : Line} {g : GuardNo}
    (hnot : ¬ ∃ i, s.reservations[holderOf e.port e.context].state = .live l i)
    (hg : s.ownGuard (holderOf e.port e.context) l = some g) : s.judge e l = s.failAsOwner e g := by
  rw [← Reservation.isLiveOn_iff] at hnot
  simp only [State.judge, if_neg hnot, hg]

theorem judge_fails_without_guard {s : State} {e : Entry} {l : Line}
    (hnot : ¬ ∃ i, s.reservations[holderOf e.port e.context].state = .live l i)
    (hg : s.ownGuard (holderOf e.port e.context) l = none) : s.judge e l = s.failJudgement e l := by
  rw [← Reservation.isLiveOn_iff] at hnot
  simp only [State.judge, if_neg hnot, hg]

theorem passJudgement_of_owner {s : State} {e : Entry} {l : Line} {g : GuardNo}
    (hg : s.ownGuard (holderOf e.port e.context) l = some g) :
    s.passJudgement e l =
      ((s.setReservation (holderOf e.port e.context) ⟨.idle, 0⟩).releaseGuard g).makeReady e := by
  simp only [State.passJudgement, State.setReservation_ownGuard, hg]

theorem passJudgement_of_no_guard {s : State} {e : Entry} {l : Line}
    (hg : s.ownGuard (holderOf e.port e.context) l = none) :
    s.passJudgement e l = (s.setReservation (holderOf e.port e.context) ⟨.idle, 0⟩).makeReady e := by
  simp only [State.passJudgement, State.setReservation_ownGuard, hg]

/-- The state in which a failed judgement without a guard leaves the part, before the escalation and the placing: the
entry answered FAILED, the record as R34 leaves it, its count raised (R36). -/
def State.failed (s : State) (e : Entry) : State :=
  let h := holderOf e.port e.context
  (s.markAnswered e.arrival .failed none).setReservation h
    ⟨s.reservations[h].state.afterFailure, raisedFailures s.config s.reservations[h].failures⟩

/-- The escalation is requested exactly when the raised count equals the threshold (R38). -/
theorem failJudgement_eq (s : State) (e : Entry) (l : Line) :
    s.failJudgement e l =
      State.placeIfRoom
        (if raisedFailures s.config s.reservations[holderOf e.port e.context].failures = s.config.failureThreshold then
          (s.failed e).escalate (holderOf e.port e.context) l
        else s.failed e) e.arrival := rfl

/-- Settles O17, by the two questions the judgement asks: whether the record is LIVE on the line, and whether the holder
owns a guard on it. -/
theorem judgementDecidesTheRecord : Obligations.JudgementDecidesTheRecord := by
  intro s e l _ h live after count ready
  refine ⟨fun g i hg hu => ?_, fun hnone => ?_⟩
  · have hown : s.ownGuard h l = some g := State.ownGuard_of_unique hg hu
    refine ⟨fun hlive => ?_, fun hnot => ?_⟩
    · rw [judge_passes hlive, passJudgement_of_owner hown]
      rfl
    · rw [judge_fails_as_owner hnot hown]
      rfl
  · have hown : s.ownGuard h l = none := (s.ownGuard_eq_none_iff h l).mpr hnone
    refine ⟨fun hlive => ?_, fun hnot => ?_⟩
    · rw [judge_passes hlive, passJudgement_of_no_guard hown]
      rfl
    · rw [judge_fails_without_guard hnot hown, failJudgement_eq]
      exact ⟨fun hcount => congrArg (State.placeIfRoom · e.arrival) (if_pos hcount),
        fun hcount => congrArg (State.placeIfRoom · e.arrival) (if_neg hcount)⟩

/-! ## Timers (R32, R92) -/

theorem State.unlessHeld_of_released {s : State} (h : s.porAsserted = false) (f : State → State) :
    s.unlessHeld f = f s := by
  simp [State.unlessHeld, h]

theorem exec_reservationExpiry {s : State} (hpor : s.porAsserted = false) (h : Holder) :
    exec (.reservationExpiry h) s = .next (s.expireReservation h) :=
  congrArg Host.Outcome.next (State.unlessHeld_of_released hpor _)

theorem exec_bankRecoveryExpiry {s : State} (hpor : s.porAsserted = false) (b : BankNo) :
    exec (.bankRecoveryExpiry b) s = .next (s.expireRecovery b) :=
  congrArg Host.Outcome.next (State.unlessHeld_of_released hpor _)

theorem expireReservation_of_live {s : State} {h : Holder} {l : Line} {i : Nat}
    (hl : s.reservations[h].state = .live l i) :
    s.expireReservation h = s.setReservation h ⟨.broken l .expired, s.reservations[h].failures⟩ := by
  simp only [State.expireReservation, hl]

theorem expireReservation_of_not_live {s : State} {h : Holder} (hn : ∀ l i, s.reservations[h].state ≠ .live l i) :
    s.expireReservation h = s := by
  unfold State.expireReservation
  split
  next l i hl => exact (hn l i hl).elim
  next => rfl
  next => rfl

theorem expireRecovery_of_recovering {s : State} {b : BankNo} {i : Nat} (hb : s.banks[b] = .recovering i) :
    s.expireRecovery b = s.setBank b .idle := by
  simp only [State.expireRecovery, hb]

theorem expireRecovery_of_not_recovering {s : State} {b : BankNo} (hn : ∀ i, s.banks[b] ≠ .recovering i) :
    s.expireRecovery b = s := by
  unfold State.expireRecovery
  split
  next i hb => exact (hn i hb).elim
  next => rfl
  next => rfl

/-- Settles O33, by the state of the record and of the bank whose timer is said to run out. -/
theorem reservationAndRecoveryTimersRunOut : Obligations.ReservationAndRecoveryTimersRunOut := by
  intro s h b hpor
  rw [exec_reservationExpiry hpor, exec_bankRecoveryExpiry hpor]
  exact ⟨fun l i hl => congrArg Host.Outcome.next (expireReservation_of_live hl),
    fun hn => congrArg Host.Outcome.next (expireReservation_of_not_live hn),
    fun i hb => congrArg Host.Outcome.next (expireRecovery_of_recovering hb),
    fun hn => congrArg Host.Outcome.next (expireRecovery_of_not_recovering hn)⟩

end Sys2Proof.Machine
end

/-! # Line guards (03_line_guards.md) -/

section
namespace Sys2Proof.Machine

open Sys2Proof

/-! ## The records an escalation looks up (R49, R51) -/

theorem GuardRecord.guards_iff (r : GuardRecord) (l : Line) : r.guards l = true ↔ ∃ o i, r = .active l o i := by
  cases r <;> simp [GuardRecord.guards]

@[simp] theorem GuardRecord.guards_free (l : Line) : GuardRecord.free.guards l = false := rfl

theorem State.guardOn_eq_none_iff (s : State) (l : Line) :
    s.guardOn l = none ↔ ∀ g : GuardNo, s.guards[g].guards l = false := by
  simp [State.guardOn, mem_allGuards]

theorem State.freeGuard_eq_none_iff (s : State) : s.freeGuard = none ↔ ∀ g : GuardNo, s.guards[g] ≠ .free := by
  simp [State.freeGuard, mem_allGuards]

theorem allGuards_eq_finRange : allGuards = List.finRange 4 := rfl

/-- The FREE record that is found is the lowest-numbered one (R51). -/
theorem State.freeGuard_of_lowest {s : State} {g : GuardNo} (hg : s.guards[g] = .free)
    (hlow : ∀ k : GuardNo, k < g → s.guards[k] ≠ .free) : s.freeGuard = some g := by
  rw [State.freeGuard, allGuards_eq_finRange, List.find?_eq_some_iff_getElem]
  refine ⟨by simpa using hg, g.val, by simp, by simp, fun j hj => ?_⟩
  simpa using hlow ⟨j, hj.trans g.isLt⟩ hj

theorem escalate_guarded {s : State} {l : Line} {g : GuardNo} (h : Holder) (hg : s.guards[g].guards l = true) :
    s.escalate h l = s.post .guardRefused (some (portOf h)) (.refusedLine l .lineGuarded) := by
  cases hon : s.guardOn l with
  | some k => simp only [State.escalate, hon]
  | none => exact (Bool.eq_false_iff.mp ((s.guardOn_eq_none_iff l).mp hon g) hg).elim

theorem escalate_granted {s : State} {l : Line} {g : GuardNo} (h : Holder) (hl : s.guardOn l = none)
    (hg : s.freeGuard = some g) :
    s.escalate h l =
      (s.setGuard g (.active l h s.config.guardLifetime)).post .guardGranted (some (portOf h)) (.line l) := by
  simp only [State.escalate, hl, hg]

theorem escalate_full {s : State} {l : Line} (h : Holder) (hl : s.guardOn l = none) (hg : s.freeGuard = none) :
    s.escalate h l = s.post .guardRefused (some (portOf h)) (.refusedLine l .tableFull) := by
  simp only [State.escalate, hl, hg]

/-- Settles O18, by the two questions the request asks: whether the line is guarded, and whether a record is FREE. -/
theorem escalationGrantsOrRefuses : Obligations.EscalationGrantsOrRefuses := by
  intro s h l
  refine ⟨fun ⟨g, o, i, hg⟩ => ?_, fun hnone => ?_⟩
  · exact escalate_guarded h ((GuardRecord.guards_iff _ l).mpr ⟨o, i, hg⟩)
  · have hl : s.guardOn l = none := (s.guardOn_eq_none_iff l).mpr fun g => by
      rw [Bool.eq_false_iff, ne_eq, GuardRecord.guards_iff]
      rintro ⟨o, i, hg⟩
      exact hnone g o i hg
    exact ⟨fun g hg hlow => escalate_granted h hl (State.freeGuard_of_lowest hg hlow),
      fun hfull => escalate_full h hl (s.freeGuard_eq_none_iff.mpr hfull)⟩

/-! ## A guard's expiry (R60) -/

theorem exec_guardExpiry {s : State} (hpor : s.porAsserted = false) (g : GuardNo) :
    exec (.guardExpiry g) s = .next (s.expireGuard g) :=
  congrArg Host.Outcome.next (State.unlessHeld_of_released hpor _)

theorem expireGuard_of_free {s : State} {g : GuardNo} (hg : s.guards[g] = .free) : s.expireGuard g = s := by
  simp only [State.expireGuard, hg]

/-- The part as the expiry of guard g on line l, owned by o, leaves it before the checks. -/
def State.expired (s : State) (g : GuardNo) (l : Line) (o : Holder) : State :=
  ((s.setReservation o { s.reservations[o] with failures := 0 }).post .guardExpired (some (portOf o))
    (.line l)).releaseGuard g

theorem expireGuard_of_active {s : State} {g : GuardNo} {l : Line} {o : Holder} {i : Nat}
    (hg : s.guards[g] = .active l o i) : s.expireGuard g = (s.expired g l o).settle := by
  simp only [State.expireGuard, hg, State.expired]

/-- Settles O19, by the state of the guard whose timer is said to run out. -/
theorem guardExpiryReleasesTheGuard : Obligations.GuardExpiryReleasesTheGuard := by
  intro s g hpor
  rw [exec_guardExpiry hpor]
  exact ⟨fun hg => congrArg Host.Outcome.next (expireGuard_of_free hg),
    fun l o i hg => ⟨s.expired g l o, congrArg Host.Outcome.next (expireGuard_of_active hg), rfl⟩⟩

end Sys2Proof.Machine
end

section
namespace Sys2Proof.Machine

open Sys2Proof

/-! ## Happenings that grant no guard and defer no entry

Only an escalation grants a guard, and only an acceptance makes an entry DEFERRED. All else is one relation, along which
the guards and the deferred lists can only shrink. -/

/-- From s to t guards stay or become FREE, and a DEFERRED entry was there before, on the list of a guard that stays. -/
structure GuardsFollow (s t : State) : Prop where
  guards : ∀ g : GuardNo, t.guards[g] = s.guards[g] ∨ t.guards[g] = .free
  deferred : ∀ e ∈ t.entries, ∀ g : GuardNo, e.state = .deferred g → e ∈ s.entries ∧ t.guards[g] = s.guards[g]

namespace GuardsFollow

variable {s t u : State}

theorem trans (h : GuardsFollow s t) (k : GuardsFollow t u) : GuardsFollow s u where
  guards g := by
    rcases k.guards g with hk | hk
    · rw [hk]; exact h.guards g
    · exact .inr hk
  deferred e he g hg := by
    obtain ⟨het, hut⟩ := k.deferred e he g hg
    obtain ⟨hes, hts⟩ := h.deferred e het g hg
    exact ⟨hes, hut.trans hts⟩

/-- A move of the table that leaves the guards, and makes no entry DEFERRED nor changes one that stays so. -/
theorem of_moves {R : Entry → Option Entry → Prop} (h : TableMoves R s t) (hg : t.guards = s.guards)
    (hR : ∀ x y, R x (some y) → y.isDeferred = true → y = x) : GuardsFollow s t where
  guards g := .inl (by rw [hg])
  deferred e he g hdef := by
    obtain ⟨x, hx, hxe⟩ := h.entries.mem he
    obtain rfl := hR x e hxe (e.isDeferred_iff.mpr ⟨g, hdef⟩)
    exact ⟨hx, by rw [hg]⟩

theorem of_same (h : SameTable s t) (hg : t.guards = s.guards) : GuardsFollow s t :=
  of_moves (R := fun x o => o = some x) (.of_same h fun _ _ => rfl) hg fun _ _ hxy _ => Option.some.inj hxy

theorem refl (s : State) : GuardsFollow s s := of_same (.refl s) rfl

/-- A change that touches neither the table nor the guards. -/
theorem of_eq (he : t.entries = s.entries) (hg : t.guards = s.guards) : GuardsFollow s t :=
  ⟨fun g => .inl (by rw [hg]), fun _ hmem _ _ => ⟨he ▸ hmem, by rw [hg]⟩⟩

end GuardsFollow

theorem AnsweredAt.eq_of_deferred {n : Nat} {x y : Entry} (h : AnsweredAt n x (some y)) (hy : y.isDeferred = true) :
    y = x := by
  cases h with
  | answered => cases hy
  | stays => rfl

theorem PlacedAt.eq {n : Nat} {x y : Entry} (h : PlacedAt n x (some y)) : y = x := by
  cases h; rfl

theorem ReadyAt.eq_of_deferred {n : Nat} {x y : Entry} (h : ReadyAt n x (some y)) (hy : y.isDeferred = true) :
    y = x := by
  cases h with
  | ready => cases hy
  | stays => rfl

/-- A dispatch raises the bypass counts of READY entries alone. -/
theorem State.Bound.eq_of_deferred {s : State} {e x y : Entry} {t : Tag} (h : s.Bound e t x (some y))
    (hy : y.isDeferred = true) : y = x := by
  cases h with
  | issued => cases hy
  | passed =>
    obtain ⟨g, hg⟩ := Entry.isDeferred_iff _ |>.mp hy
    rw [raiseBypass_state] at hg
    unfold State.raiseBypass
    split
    · rename_i hx
      cases hg.symm.trans (State.isCandidate_ready hx.1)
    · rfl

theorem Entry.orphan_eq_of_deferred {x : Entry} (p : Port) (h : (x.orphan p).isDeferred = true) : x.orphan p = x := by
  cases hi : x.isIssued with
  | false => exact Entry.orphan_of_not_issued p hi
  | true =>
    obtain ⟨t, ht⟩ := x.isIssued_iff.mp hi
    by_cases hp : x.port = p
    · subst hp
      rw [Entry.orphan_of_issued ht] at h
      cases h
    · exact if_neg hp

theorem releaseCause_eq_of_deferred {s : State} {x : Entry} (h : (s.releaseCause x).isDeferred = true) :
    s.releaseCause x = x := by
  rcases releaseCause_cases s x with hx | ⟨c, -, -, hx⟩
  · exact hx
  · rw [hx] at h
    cases h

/-! ### Which operations leave the guards -/

@[simp] theorem State.removeEntries_guards (s : State) (gone : Entry → Bool) :
    (s.removeEntries gone).guards = s.guards := by
  rcases s.removeEntries_cases gone with h | ⟨-, h⟩ <;> simp [h]

@[simp] theorem State.placeEntry_guards (s : State) (e : Entry) : (s.placeEntry e).guards = s.guards := by
  unfold State.placeEntry
  split <;> simp

@[simp] theorem State.placeIfRoom_guards (s : State) (n : Nat) : (s.placeIfRoom n).guards = s.guards := by
  unfold State.placeIfRoom
  split
  · rfl
  · split
    · exact s.placeEntry_guards _
    · rfl

@[simp] theorem State.answer_guards (s : State) (n : Nat) (st : Status) (d : Option Data) :
    (s.answer n st d).guards = s.guards := (s.markAnswered n st d).placeIfRoom_guards n

@[simp] theorem State.recordFault_guards (s : State) (l : Line) (c : FaultCause) (p : Port) :
    (s.recordFault l c p).guards = s.guards := by
  rw [s.recordFault_frame]

@[simp] theorem State.endReserve_guards (s : State) (e : Entry) (l : Line) : (s.endReserve e l).guards = s.guards := by
  unfold State.endReserve
  split <;> rfl

@[simp] theorem State.faultWrite_guards (s : State) (e : Entry) (l : Line) (c : FaultCause) :
    (s.faultWrite e l c).guards = s.guards := by
  unfold State.faultWrite
  split <;> simp

@[simp] theorem State.completeReserve_guards (s : State) (e : Entry) (l : Line) (o : CompletionOutcome) :
    (s.completeReserve e l o).guards = s.guards := by
  unfold State.completeReserve
  split <;> simp

@[simp] theorem State.completeFault_guards (s : State) (e : Entry) (l : Line) (o : CompletionOutcome) :
    (s.completeFault e l o).guards = s.guards := by
  cases o with
  | dataError => exact s.recordFault_guards l _ e.port
  | doneCorrected =>
    simp only [State.completeFault]
    split
    · rfl
    · split <;> rfl
  | done =>
    simp only [State.completeFault]
    split <;> rfl

@[simp] theorem State.dispatchReservation_guards (s : State) (e : Entry) (l : Line) :
    (s.dispatchReservation e l).guards = s.guards := by
  unfold State.dispatchReservation
  split <;> rfl

@[simp] theorem State.expireReservation_guards (s : State) (h : Holder) :
    (s.expireReservation h).guards = s.guards := by
  unfold State.expireReservation
  split <;> rfl

@[simp] theorem State.expireRecovery_guards (s : State) (b : BankNo) : (s.expireRecovery b).guards = s.guards := by
  unfold State.expireRecovery
  split <;> rfl

@[simp] theorem State.writeSelector_guards (s : State) (v : Word) : (s.writeSelector v).guards = s.guards := by
  unfold State.writeSelector
  split <;> rfl

@[simp] theorem State.writeOther_guards (s : State) (w : OtherWord) (v : Word) :
    (s.writeOther w v).guards = s.guards := by
  cases w <;> rfl

@[simp] theorem State.quietFrame_guards (s : State) (f : QuietFrame) : (s.quietFrame f).guards = s.guards := by
  obtain ⟨q, o, m, h, -⟩ := s.quietFrame_eq f
  rw [h]

@[simp] theorem State.readFrame_guards (s : State) (a : Byte) (n : Nat) : (s.readFrame a n).guards = s.guards :=
  s.quietFrame_guards (.read a n)

@[simp] theorem State.clearFault_guards (s : State) (l : Line) : (s.clearFault l).1.guards = s.guards := by
  unfold State.clearFault
  split <;> rfl

@[simp] theorem State.goOnline_guards (s : State) : s.goOnline.1.guards = s.guards := by
  have hcheck : s.checkOnline.1.guards = s.guards := by
    unfold State.checkOnline
    split <;> rfl
  unfold State.goOnline
  split
  · exact hcheck
  · exact hcheck
  · rfl
  · rfl

@[simp] theorem State.drain_guards (s : State) : s.drain.1.guards = s.guards := by
  unfold State.drain
  split
  · split <;> rfl
  all_goals rfl

@[simp] theorem State.drain_entries (s : State) : s.drain.1.entries = s.entries := by
  unfold State.drain
  split
  · split <;> rfl
  all_goals rfl

/-! ### The operations along the relation -/

theorem setReservation_guardsFollow (s : State) (h : Holder) (r : Reservation) :
    GuardsFollow s (s.setReservation h r) := .of_eq rfl rfl

theorem markAnswered_guardsFollow (s : State) (n : Nat) (st : Status) (d : Option Data) :
    GuardsFollow s (s.markAnswered n st d) :=
  .of_moves (markAnswered_moves s n st d) rfl fun _ _ => AnsweredAt.eq_of_deferred

theorem placeEntry_guardsFollow (s : State) (e : Entry) : GuardsFollow s (s.placeEntry e) :=
  .of_moves (placeEntry_moves s e) (by simp) fun _ _ h _ => h.eq

theorem placeIfRoom_guardsFollow (s : State) (n : Nat) : GuardsFollow s (s.placeIfRoom n) :=
  .of_moves (placeIfRoom_moves s n) (by simp) fun _ _ h _ => h.eq

theorem answer_guardsFollow (s : State) (n : Nat) (st : Status) (d : Option Data) : GuardsFollow s (s.answer n st d) :=
  .of_moves (answer_moves s n st d) (by simp) fun _ _ => AnsweredAt.eq_of_deferred

theorem makeReady_guardsFollow (s : State) (e : Entry) : GuardsFollow s (s.makeReady e) :=
  .of_moves (makeReady_moves s e) rfl fun _ _ => ReadyAt.eq_of_deferred

theorem releaseCauses_guardsFollow (s : State) : GuardsFollow s s.releaseCauses :=
  .of_moves (releaseCauses_moves s) rfl fun _ _ h hy => by
    obtain rfl := Option.some.inj h
    exact releaseCause_eq_of_deferred hy

theorem bind_guardsFollow (s : State) (e : Entry) (l : Line) (t : Tag) : GuardsFollow s (s.bind e l t) :=
  .of_moves (bind_moves s e l t) rfl fun _ _ => State.Bound.eq_of_deferred

theorem filterEntries_guardsFollow (s : State) (q : Entry → Bool) :
    GuardsFollow s (s.setEntries (s.entries.filter q)) :=
  ⟨fun _ => .inl rfl, fun _ he _ _ => ⟨(List.mem_filter.mp he).1, rfl⟩⟩

theorem orphanEntries_guardsFollow (s : State) (p : Port) :
    GuardsFollow s (s.setEntries (s.entries.map fun e => e.orphan p)) :=
  .of_moves (setEntries_moves (R := fun x o => o = some (x.orphan p)) (.map _ fun _ _ => rfl)) rfl fun _ _ h hy => by
    obtain rfl := Option.some.inj h
    exact Entry.orphan_eq_of_deferred p hy

theorem removeEntries_guardsFollow (s : State) (gone : Entry → Bool) : GuardsFollow s (s.removeEntries gone) :=
  ⟨fun _ => .inl (by simp), fun e he _ _ => by
    rw [State.removeEntries_entries] at he
    exact ⟨(List.mem_filter.mp he).1, by simp⟩⟩

/-- The release of a guard takes its whole deferred list from it, and no other list (R58). -/
theorem releaseGuard_guardsFollow (s : State) (g : GuardNo) : GuardsFollow s (s.releaseGuard g) := by
  have hget : ∀ k : GuardNo, (s.releaseGuard g).guards[k] = if g = k then .free else s.guards[k] :=
    fun k => State.setGuard_get _ g k .free
  refine ⟨fun k => ?_, fun e he k hk => ?_⟩
  · rw [hget]
    split
    · exact .inr rfl
    · exact .inl rfl
  · obtain ⟨x, hx, hxe⟩ := List.mem_map.mp he
    split at hxe
    · rw [← hxe] at hk
      cases hk
    · subst hxe
      rename_i hne
      refine ⟨hx, ?_⟩
      rw [hget, if_neg]
      rintro rfl
      exact hne hk

theorem passJudgement_guardsFollow (s : State) (e : Entry) (l : Line) : GuardsFollow s (s.passJudgement e l) := by
  cases hown : s.ownGuard (holderOf e.port e.context) l with
  | some g =>
    rw [passJudgement_of_owner hown]
    exact ((setReservation_guardsFollow s _ _).trans (releaseGuard_guardsFollow _ g)).trans (makeReady_guardsFollow _ e)
  | none =>
    rw [passJudgement_of_no_guard hown]
    exact (setReservation_guardsFollow s _ _).trans (makeReady_guardsFollow _ e)

theorem failAsOwner_guardsFollow (s : State) (e : Entry) (g : GuardNo) : GuardsFollow s (s.failAsOwner e g) :=
  ((setReservation_guardsFollow s _ _).trans (releaseGuard_guardsFollow _ g)).trans (answer_guardsFollow _ _ _ _)

theorem resetGuards_guardsFollow (s : State) (p : Port) :
    GuardsFollow s (allGuards.foldl (State.releaseIfOwned p) s) :=
  List.foldlRecOn allGuards _ (.refl s) fun t ht g _ => by
    unfold State.releaseIfOwned
    split
    · exact ht.trans (releaseGuard_guardsFollow t g)
    · exact ht

end Sys2Proof.Machine
end

section
namespace Sys2Proof.Machine

open Sys2Proof

/-! ## One guard a line, and its deferred list (R49, R56) -/

namespace GuardLaw

variable {s t : State}

theorem follows (h : GuardsFollow s t) (hs : GuardLaw s) : GuardLaw t := by
  obtain ⟨hone, hlist⟩ := hs
  have hback : ∀ (g : GuardNo) (l : Line), t.guards[g].guards l = true → s.guards[g].guards l = true := by
    intro g l hg
    rcases h.guards g with hsame | hfree
    · rwa [hsame] at hg
    · simp [hfree] at hg
  refine ⟨fun g g' l hg hg' => hone g g' l (hback g l hg) (hback g' l hg'), fun e he g hg => ?_⟩
  obtain ⟨hmem, hsame⟩ := h.deferred e he g hg
  rw [hsame]
  exact hlist e hmem g hg

theorem same (h : SameTable s t) (hg : t.guards = s.guards) (hs : GuardLaw s) : GuardLaw t := hs.follows (.of_same h hg)

/-- A FREE record has no entry on its list, and may come to guard a line without a guard (R49, R51). -/
theorem grant (hs : GuardLaw s) {g : GuardNo} {l : Line} (hfree : s.guards[g] = .free) (hnone : s.guardOn l = none)
    (h : Holder) (i : Nat) : GuardLaw (s.setGuard g (.active l h i)) := by
  obtain ⟨hone, hlist⟩ := hs
  have hnew : ∀ l', (GuardRecord.active l h i).guards l' = true → l = l' := fun l' hl' => by
    simpa [GuardRecord.guards] using hl'
  have hold : ∀ (k : GuardNo) (l' : Line), s.guards[k].guards l' = true → l ≠ l' := by
    rintro k l' hk rfl
    exact Bool.eq_false_iff.mp ((s.guardOn_eq_none_iff l).mp hnone k) hk
  refine ⟨fun k k' l' hk hk' => ?_, fun e hmem k hk => ?_⟩
  · rw [State.setGuard_get] at hk hk'
    split at hk <;> split at hk'
    · exact ‹g = k›.symm.trans ‹g = k'›
    · exact (hold k' l' hk' (hnew l' hk)).elim
    · exact (hold k l' hk (hnew l' hk')).elim
    · exact hone k k' l' hk hk'
  · obtain ⟨l', hl', hguards⟩ := hlist e hmem k hk
    refine ⟨l', hl', ?_⟩
    rw [State.setGuard_get, if_neg]
    · exact hguards
    · rintro rfl
      simp [hfree] at hguards

theorem escalate (hs : GuardLaw s) (h : Holder) (l : Line) : GuardLaw (s.escalate h l) := by
  rcases s.escalate_cases h l with ⟨why, he⟩ | ⟨g, hnone, hfree, he⟩ <;> rw [he]
  · exact hs.follows (.of_eq rfl rfl)
  · exact (hs.grant hfree hnone h _).follows (.of_eq rfl rfl)

theorem failJudgement (hs : GuardLaw s) (e : Entry) (l : Line) : GuardLaw (s.failJudgement e l) := by
  have hfailed : GuardLaw (s.failed e) :=
    hs.follows ((markAnswered_guardsFollow s _ _ _).trans (setReservation_guardsFollow _ _ _))
  rw [failJudgement_eq]
  split
  · exact (hfailed.escalate _ l).follows (placeIfRoom_guardsFollow _ _)
  · exact hfailed.follows (placeIfRoom_guardsFollow _ _)

theorem judge (hs : GuardLaw s) (e : Entry) (l : Line) : GuardLaw (s.judge e l) := by
  unfold State.judge
  dsimp only
  split
  · exact hs.follows (passJudgement_guardsFollow s e l)
  · split
    · exact hs.follows (failAsOwner_guardsFollow s e _)
    · exact hs.failJudgement e l

theorem examine (hs : GuardLaw s) (e : Entry) : GuardLaw (s.examine e) := by
  unfold State.examine
  split
  · exact hs.follows (answer_guardsFollow s _ _ _)
  · split
    · exact hs.follows (answer_guardsFollow s _ _ _)
    · split
      · exact hs.judge e _
      · exact hs.follows (makeReady_guardsFollow s e)

theorem settle (hs : GuardLaw s) : GuardLaw s.settle :=
  settle_keeps GuardLaw (fun t ht => ht.follows (releaseCauses_guardsFollow t)) (fun _ e _ _ ht => ht.examine e) s hs

end GuardLaw

/-- The guard that defers a request is ACTIVE on its line (R55). -/
theorem deferringGuard_some {s : State} {p : Port} {m : Request} {g : GuardNo} (h : s.deferringGuard p m = some g) :
    ∃ l, m.line = some l ∧ s.guards[g].guards l = true := by
  unfold State.deferringGuard at h
  split at h
  · cases h
  · rename_i l hl
    split at h
    · have hfound := List.find?_some h
      rw [Bool.and_eq_true] at hfound
      exact ⟨l, hl, hfound.1⟩
    · cases h

/-! ## The guards' law is kept by every command -/

namespace GuardLaw

variable {s t : State}

theorem of_empty (hg : s.guards = Vector.replicate 4 .free) (he : s.entries = []) : GuardLaw s :=
  ⟨by simp [hg], by simp [he]⟩

/-- A happening that grants no guard and defers no entry, and then the checks. -/
theorem settleAfter (hs : GuardLaw s) (h : GuardsFollow s t) : GuardLaw t.settle := (hs.follows h).settle

theorem enter (hs : GuardLaw s) (p : Port) (m : Request) : GuardLaw (s.enter p m) := by
  refine ⟨hs.1, fun e he g hg => ?_⟩
  rcases mem_enter he with he | rfl
  · exact hs.2 e he g hg
  · have hstate : s.entryStateAt p m = .deferred g := hg
    rcases entryStateAt_cases s p m with ⟨k, hk, h⟩ | ⟨-, h⟩ | ⟨-, h⟩
    · obtain rfl : k = g := by simpa [h] using hstate
      exact deferringGuard_some hk
    · simp [h] at hstate
    · simp [h] at hstate

theorem endOperation (hs : GuardLaw s) (e : Entry) (st : Status) (d : Option Data) :
    GuardLaw (s.endOperation e st d) := by
  unfold State.endOperation
  split
  · have hfenced := (hs.settleAfter (filterEntries_guardsFollow s fun x => x.arrival != e.arrival)).same
      (endFencing_same _ e.port) (State.endFencing_guards _ e.port)
    dsimp only
    split
    · exact hfenced.follows (.of_eq (State.reportEmpty_entries _) (State.reportEmpty_guards _))
    · exact hfenced
  · exact hs.settleAfter (answer_guardsFollow s _ st d)

theorem resetPort (hs : GuardLaw s) (p : Port) : GuardLaw (s.resetPort p) := by
  have hclear : GuardLaw ((s.setPort p ⟨.fenced, []⟩).clearHolders p) := hs.follows (.of_eq rfl rfl)
  have hentries : GuardLaw (((s.setPort p ⟨.fenced, []⟩).clearHolders p).resetEntries p) :=
    hclear.settleAfter ((orphanEntries_guardsFollow _ p).trans (removeEntries_guardsFollow _ _))
  have hguards := hentries.settleAfter (resetGuards_guardsFollow _ p)
  exact hguards.same (endFencing_same _ p) (State.endFencing_guards _ p)

theorem takeRequest (hs : GuardLaw s) (p : Port) (m : Request) : GuardLaw (s.takeRequest p m) := by
  unfold State.takeRequest
  split
  · rw [State.accept_eq]
    exact (hs.enter p m).settle
  · dsimp only
    split <;> exact hs.follows (.of_eq rfl rfl)

theorem takeFromWires (hs : GuardLaw s) (p : Port) : GuardLaw (s.takeFromWires p) := by
  unfold State.takeFromWires
  split
  · exact hs
  · split
    · rename_i m rest _ _
      have htaken : GuardLaw { s with wires := s.wires.set p rest } := hs.follows (.of_eq rfl rfl)
      exact htaken.takeRequest p m
    · exact hs

theorem deliver (hs : GuardLaw s) (p : Port) : GuardLaw (s.deliver p) := by
  unfold State.deliver
  split
  · exact hs
  · rename_i r rest _
    have htaken : GuardLaw
        { s.setPort p { s.ports[p] with responses := rest } with delivered := s.delivered ++ [(p, r)] } :=
      hs.follows (.of_eq rfl rfl)
    unfold State.fillPlace
    split
    · exact htaken
    · exact htaken.follows (placeEntry_guardsFollow _ _)

theorem dispatch (hs : GuardLaw s) : GuardLaw s.dispatch := by
  unfold State.dispatch
  split
  · split
    · rename_i t e _ _
      split
      · rename_i l _
        exact hs.settleAfter ((bind_guardsFollow s e l t).trans (.of_same (dispatchReservation_same _ e l) (by simp)))
      · exact hs
    all_goals exact hs
  · exact hs

theorem completeEntry (hs : GuardLaw s) (t : Tag) (e : Entry) (l : Line) (m : Completion) :
    GuardLaw (s.completeEntry t e l m) := by
  have hended : GuardLaw ((s.setTag t .free).endBank l) := hs.follows (.of_eq rfl rfl)
  have hreserve := hended.same (completeReserve_same _ e l (effectiveOutcome e m)) (by simp)
  have hfault := hreserve.same (completeFault_same _ e l (effectiveOutcome e m)) (by simp)
  exact hfault.endOperation e _ _

theorem complete (hs : GuardLaw s) (m : Completion) : GuardLaw (s.complete m) := by
  have hpost : GuardLaw (s.post .strayCompletion none (.tag m.tag)) := hs.follows (.of_eq rfl rfl)
  have hfreed : ∀ t : Tag, GuardLaw (s.setTag t .free) := fun t => hs.follows (.of_eq rfl rfl)
  unfold State.complete
  split
  · rename_i hlt
    unfold State.completeTag
    split
    · exact hpost
    · exact (hfreed ⟨m.tag, hlt⟩).follows (.of_eq rfl rfl)
    · split
      · exact hfreed _
      · split
        · exact hfreed _
        · exact hs.completeEntry _ _ _ m
  · exact hpost

theorem timeOutEntry (hs : GuardLaw s) (t : Tag) (e : Entry) (l : Line) : GuardLaw (s.timeOutEntry t e l) := by
  have hended : GuardLaw ((s.setTag t (.quarantined (operationOf e.kind) l e.port)).endBank l) :=
    hs.follows (.of_eq rfl rfl)
  have hreserve := hended.same (endReserve_same _ e l) (by simp)
  have hwritten := hreserve.same (faultWrite_same _ e l .writeTimeout) (by simp)
  exact (hwritten.endOperation e .timeout none).follows (.of_eq rfl rfl)

theorem timeOut (hs : GuardLaw s) (t : Tag) : GuardLaw (s.timeOut t) := by
  unfold State.timeOut
  split
  · exact hs
  · exact hs
  · split
    · exact hs
    · split
      · exact hs
      · exact hs.timeOutEntry t _ _

theorem linkAbort (hs : GuardLaw s) : GuardLaw s.linkAbort := by
  have hreserve := List.foldlRecOn (motive := GuardLaw) (s.entries.filter Entry.isOutstanding)
    (fun s e => match e.line with | none => s | some l => s.endReserve e l) hs fun t ht e _ => by
      split
      · exact ht
      · exact ht.same (endReserve_same t e _) (by simp)
  have hfault := List.foldlRecOn (motive := GuardLaw) (s.entries.filter Entry.isOutstanding)
    (fun s e => match e.line with | none => s | some l => s.faultWrite e l .writeAborted) hreserve fun t ht e _ => by
      split
      · exact ht
      · exact ht.same (faultWrite_same t e _ _) (by simp)
  have hend := List.foldlRecOn (motive := GuardLaw) (s.entries.filter Entry.isOutstanding)
    (fun s e => s.endOperation e .aborted none) hfault fun t ht e _ => ht.endOperation e .aborted none
  exact hend.follows (.of_eq rfl rfl)

theorem signalDown (hs : GuardLaw s) : GuardLaw s.signalDown := by
  unfold State.signalDown
  split
  · exact hs.linkAbort
  · exact hs

theorem expireGuard (hs : GuardLaw s) (g : GuardNo) : GuardLaw (s.expireGuard g) := by
  cases hg : s.guards[g] with
  | free => rwa [expireGuard_of_free hg]
  | active l o i =>
    rw [expireGuard_of_active hg]
    have hposted : GuardsFollow s ((s.setReservation o { s.reservations[o] with failures := 0 }).post .guardExpired
      (some (portOf o)) (.line l)) := .of_eq rfl rfl
    exact hs.settleAfter (hposted.trans (releaseGuard_guardsFollow _ g))

theorem commandPortReset (hs : GuardLaw s) (args : CommandArguments) : GuardLaw (s.commandPortReset args).1 := by
  unfold State.commandPortReset
  cases namedPort args with
  | some p => dsimp only; exact hs.resetPort p
  | none => exact hs

theorem writeConfiguration (hs : GuardLaw s) (w : ConfigWord) (v : Word) : GuardLaw (s.writeConfiguration w v) := by
  unfold State.writeConfiguration
  split
  · split <;> exact hs.follows (.of_eq rfl rfl)
  · exact hs.follows (.of_eq rfl rfl)

/-- The frame of a command ends with its result, which touches neither the table nor the guards. -/
theorem endCommand (hs : GuardLaw s) (code : Byte) (r : CommandResult) : GuardLaw (s.endCommand code r) :=
  hs.follows (.of_eq rfl rfl)

theorem exec {c : Instr} (hs : GuardLaw s) (ht : Machine.exec c s = .next t) : GuardLaw t := by
  cases c with
  | porNAsserted => cases ht; exact of_empty rfl rfl
  | porNDeasserted =>
    cases ht
    unfold State.releasePower
    split
    · exact hs.follows (.of_eq rfl rfl)
    · exact hs
  | prstNAsserted p => exact keeps_unlessHeld ht hs (hs.resetPort p)
  | request p m =>
    have hp : GuardLaw (s.present p m) := hs.follows (.of_eq rfl rfl)
    exact keeps_unlessHeld ht hp (hp.takeFromWires p)
  | delivery p => exact keeps_unlessHeld ht hs (hs.deliver p)
  | dispatch => exact keeps_unlessHeld ht hs hs.dispatch
  | completion m => exact keeps_unlessHeld ht hs (hs.complete m)
  | completionTimeout k => exact keeps_unlessHeld ht hs (hs.timeOut k)
  | linkUp => exact keeps_unlessHeld ht hs (hs.follows (.of_eq rfl rfl))
  | linkDown => exact keeps_unlessHeld ht hs hs.signalDown
  | reservationExpiry k => exact keeps_unlessHeld ht hs (hs.same (expireReservation_same s k) (by simp))
  | guardExpiry g => exact keeps_unlessHeld ht hs (hs.expireGuard g)
  | bankRecoveryExpiry b => exact keeps_unlessHeld ht hs (hs.same (expireRecovery_same s b) (by simp))
  | goOnline args => exact keeps_unlessHeld ht hs ((hs.same (goOnline_same s) (by simp)).endCommand _ _)
  | drain args =>
    have hdrain : GuardLaw s.drain.1 := hs.follows (.of_eq (by simp) (by simp))
    exact keeps_unlessHeld ht hs (hdrain.endCommand _ _)
  | fullReset args => exact keeps_unlessHeld ht hs (of_empty rfl rfl)
  | portReset args => exact keeps_unlessHeld ht hs ((hs.commandPortReset args).endCommand _ _)
  | linkReset args =>
    have hsent : GuardLaw (s.send .linkReset) := hs.follows (.of_eq rfl rfl)
    exact keeps_unlessHeld ht hs (hsent.signalDown.endCommand _ _)
  | clearFault args => exact keeps_unlessHeld ht hs ((hs.same (clearFault_same s _) (by simp)).endCommand _ _)
  | clearAllFaults args => exact keeps_unlessHeld ht hs (hs.follows (.of_eq rfl rfl))
  | unknownCommand code args =>
    simp only [Machine.exec, execUnknownCommand] at ht
    split at ht
    · exact keeps_unlessHeld ht hs (hs.endCommand _ _)
    · cases ht
  | configurationWrite w v => exact keeps_unlessHeld ht hs (hs.writeConfiguration w v)
  | noticeMaskWrite v => exact keeps_unlessHeld ht hs (hs.follows (.of_eq rfl rfl))
  | readOutSelectorWrite v => exact keeps_unlessHeld ht hs (hs.same (writeSelector_same s v) (by simp))
  | noticeHeadRead n => exact keeps_unlessHeld ht hs (hs.same (readFrame_same s 16 n) (s.readFrame_guards 16 n))
  | noticeStatusRead n => exact keeps_unlessHeld ht hs (hs.same (readFrame_same s 18 n) (s.readFrame_guards 18 n))
  | registerWrite w v => exact keeps_unlessHeld ht hs (hs.same (writeOther_same s w v) (by simp))
  | badAddress op address =>
    simp only [Machine.exec, execBadAddress] at ht
    split at ht
    · exact keeps_unlessHeld ht hs (hs.follows (.of_eq rfl rfl))
    · cases ht

theorem idle (hs : GuardLaw s) : GuardLaw s.idle := by
  refine keeps_unlessHeld rfl hs ?_
  split
  · exact hs.takeFromWires _
  · exact hs

end GuardLaw

/-- Settles O55: a guard is granted by an escalation alone, to a record that was FREE, on a line without a guard; an entry
is DEFERRED by its acceptance alone, on the list of the guard of its line; and a guard's release empties its list. -/
theorem stepKeepsGuardLaw : Obligations.StepKeepsGuardLaw := by
  intro s t hs ht
  unfold step at ht
  split at ht
  · rename_i c rest _
    have hrest : GuardLaw { s with pending := rest } := hs.follows (.of_eq rfl rfl)
    exact hrest.exec ht
  · rcases s.nextFrame_cases with ⟨f, rest, -, -, hf⟩ | ⟨-, hf⟩
    · have hrest : GuardLaw { s with frames := rest } := hs.follows (.of_eq rfl rfl)
      rw [hf] at ht
      cases hd : decodeFrame f with
      | command c => rw [hd] at ht; exact hrest.exec ht
      | quiet q => rw [hd] at ht; cases ht; exact hrest.same (quietFrame_same _ q) (by simp)
    · rw [hf] at ht; cases ht; exact hs.idle

end Sys2Proof.Machine
end

/-! # Faulted lines and data status (04_faulted_lines_and_data_status.md) -/

section
namespace Sys2Proof.Machine

open Sys2Proof

/-! ## The recording of a fault (R33, R75) -/

theorem State.listed_eq_false_iff (s : State) (l : Line) : s.listed l = false ↔ ∀ f ∈ s.faults, f.line ≠ l := by
  simp [State.listed]

@[simp] theorem State.listFault_reservations (s : State) (l : Line) (c : FaultCause) (p : Port) :
    (s.listFault l c p).reservations = s.reservations := by
  rcases s.listFault_cases l c p with h | ⟨-, -, h⟩ | h <;> rw [h] <;> rfl

theorem State.recordFault_get (s : State) (l : Line) (c : FaultCause) (p : Port) (h : Holder) :
    (s.recordFault l c p).reservations[h] = (s.reservations[h]).break l .fault := by
  simp only [State.recordFault, State.breakForFault_get, State.listFault_reservations]

theorem State.recordFault_breaks_live {s : State} {l : Line} {h : Holder} {i : Nat}
    (hlive : s.reservations[h].state = .live l i) (c : FaultCause) (p : Port) :
    (s.recordFault l c p).reservations[h] = ⟨.broken l .fault, s.reservations[h].failures⟩ := by
  rw [s.recordFault_get, Reservation.break_of_live _ l .fault ((Reservation.isLiveOn_iff _ l).mpr ⟨i, hlive⟩)]

theorem State.recordFault_keeps_other_records {s : State} {l : Line} {h : Holder}
    (hn : ∀ i, s.reservations[h].state ≠ .live l i) (c : FaultCause) (p : Port) :
    (s.recordFault l c p).reservations[h] = s.reservations[h] := by
  have hnot : s.reservations[h].isLiveOn l = false := by
    rw [Bool.eq_false_iff, ne_eq, Reservation.isLiveOn_iff]
    rintro ⟨i, hlive⟩
    exact hn i hlive
  rw [s.recordFault_get, Reservation.break_of_not_live _ l .fault hnot]

/-- Settles O30: the break of the records is the same whatever becomes of the list, and the list by the cases of R75. -/
theorem faultRecordingBreaksReservations : Obligations.FaultRecordingBreaksReservations := by
  intro s l c p
  refine ⟨fun h => ⟨fun i hlive => State.recordFault_breaks_live hlive c p,
      fun hn => State.recordFault_keeps_other_records hn c p⟩,
    fun hlisted => ?_, fun hnot hroom => ?_, fun hnot hfull => ?_, s.recordFault_frame l c p⟩
  · rw [State.recordFault, s.listFault_of_listed l c p ((s.listed_iff l).mpr hlisted)]
    exact ⟨rfl, rfl⟩
  · rw [State.recordFault, s.listFault_adds l c p ((s.listed_eq_false_iff l).mpr hnot) hroom]
    exact ⟨rfl, rfl⟩
  · rw [State.recordFault, s.listFault_full l c p ((s.listed_eq_false_iff l).mpr hnot) hfull]
    exact ⟨rfl, rfl⟩

/-! ## The clearing commands (R80, R169) -/

theorem exec_clearFault {s : State} (hpor : s.porAsserted = false) (args : CommandArguments) :
    exec (.clearFault args) s = .next
      ((s.clearFault (namedLine args s.mgmt.lineArgument)).1.endCommand 6
        (s.clearFault (namedLine args s.mgmt.lineArgument)).2) :=
  congrArg Host.Outcome.next (State.unlessHeld_of_released hpor _)

theorem exec_clearAllFaults {s : State} (hpor : s.porAsserted = false) (args : CommandArguments) :
    exec (.clearAllFaults args) s = .next (State.endCommand { s with faults := [] } 7 .done) :=
  congrArg Host.Outcome.next (State.unlessHeld_of_released hpor _)

theorem exec_unknownCommand {s : State} (hpor : s.porAsserted = false) {code : Byte} (hcode : code = 0 ∨ 8 ≤ code.toNat)
    (args : CommandArguments) : exec (.unknownCommand code args) s = .next (s.endCommand code .badArgument) :=
  (if_pos hcode).trans (congrArg Host.Outcome.next (State.unlessHeld_of_released hpor _))

theorem State.clearFault_of_listed {s : State} {l : Line} (h : s.listed l = true) :
    s.clearFault l = (s.clearLine l, .done) := if_pos h

theorem State.clearFault_of_not_listed {s : State} {l : Line} (h : s.listed l = false) :
    s.clearFault l = (s, .badArgument) := if_neg (Bool.eq_false_iff.mp h)

theorem State.endCommand_eq (s : State) (code : Byte) (r : CommandResult) :
    s.endCommand code r =
      { s with
        frameOut := s.frameOut ++ [⟨s.mgmt.frameStatus, []⟩]
        mgmt := { s.mgmt with result := r, resultCode := code, frameStatus := .ok } } := rfl

/-- Settles O38, by whether the named line is listed; the other commands have one outcome each. -/
theorem clearingAndUnknownCommands : Obligations.ClearingAndUnknownCommands := by
  intro s args hpor
  refine ⟨fun hlisted => ?_, fun hnot => ?_, ?_, fun code hcode => ?_⟩
  · rw [exec_clearFault hpor, State.clearFault_of_listed ((s.listed_iff (namedLine args _)).mpr hlisted),
      State.endCommand_eq]
    rfl
  · rw [exec_clearFault hpor, State.clearFault_of_not_listed ((s.listed_eq_false_iff (namedLine args _)).mpr hnot),
      State.endCommand_eq]
  · rw [exec_clearAllFaults hpor, State.endCommand_eq]
  · rw [exec_unknownCommand hpor hcode, State.endCommand_eq]

end Sys2Proof.Machine
end

/-! # Banks (05_banks.md) -/

section
namespace Sys2Proof.Machine

open Sys2Proof

/-! ## The bank of a line (R83 to R86) -/

/-- Every bank count is a power of two, and at most 32. -/
theorem BankCount.banks_eq_two_pow (n : BankCount) : ∃ k ≤ 5, n.banks = 2 ^ k := by
  cases n with
  | eight => exact ⟨3, by decide, rfl⟩
  | sixteen => exact ⟨4, by decide, rfl⟩
  | thirtyTwo => exact ⟨5, by decide, rfl⟩

/-- The number that the mapping folds onto line address n: none, which is 0, under LINEAR (R84, R85). -/
def Configuration.foldOf (c : Configuration) (n : Nat) : Nat :=
  match c.bankMapping with
  | .linear => 0
  | .folded => n / 2 ^ c.foldShift % c.bankCount.banks

theorem Configuration.foldOf_linear {c : Configuration} (h : c.bankMapping = .linear) (n : Nat) : c.foldOf n = 0 := by
  simp [Configuration.foldOf, h]

theorem Configuration.foldOf_folded {c : Configuration} (h : c.bankMapping = .folded) (n : Nat) :
    c.foldOf n = n / 2 ^ c.foldShift % c.bankCount.banks := by
  simp [Configuration.foldOf, h]

theorem BankCount.banks_pos (n : BankCount) : 0 < n.banks := by cases n <;> decide

theorem Configuration.foldOf_lt (c : Configuration) (n : Nat) : c.foldOf n < c.bankCount.banks := by
  unfold Configuration.foldOf
  split
  · exact c.bankCount.banks_pos
  · exact Nat.mod_lt _ c.bankCount.banks_pos

/-- The exclusive-or of two banks is a bank, since their count is a power of two (R85). -/
theorem BankCount.xor_lt {n : BankCount} {x y : Nat} (hx : x < n.banks) (hy : y < n.banks) : x ^^^ y < n.banks := by
  obtain ⟨k, -, hk⟩ := n.banks_eq_two_pow
  rw [hk] at hx hy ⊢
  exact Nat.xor_lt_two_pow hx hy

/-- The line address modulo B, exclusive-or what the mapping folds onto it, is a bank in use (R85). -/
theorem mod_xor_foldOf_lt (c : Configuration) (n : Nat) :
    n % c.bankCount.banks ^^^ c.foldOf n < c.bankCount.banks :=
  BankCount.xor_lt (Nat.mod_lt n c.bankCount.banks_pos) (c.foldOf_lt n)

/-- One formula for both mappings (R84, R85). -/
theorem bankOf_val (c : Configuration) (l : Line) :
    (bankOf c l).val = l.toNat % c.bankCount.banks ^^^ c.foldOf l.toNat := by
  have hle : c.bankCount.banks ≤ 32 := by cases c.bankCount <;> decide
  have hval : (bankOf c l).val = (l.toNat % c.bankCount.banks ^^^ c.foldOf l.toNat) % 32 := by
    cases hm : c.bankMapping with
    | linear => simp [bankOf, hm, Configuration.foldOf_linear hm]
    | folded => simp [bankOf, hm, Configuration.foldOf_folded hm]
  rw [hval, Nat.mod_eq_of_lt ((mod_xor_foldOf_lt c l.toNat).trans_le hle)]

theorem bankOf_lt (c : Configuration) (l : Line) : (bankOf c l).val < c.bankCount.banks :=
  (bankOf_val c l).trans_lt (mod_xor_foldOf_lt c l.toNat)

theorem bankOf_linear {c : Configuration} (h : c.bankMapping = .linear) (l : Line) :
    (bankOf c l).val = l.toNat % c.bankCount.banks := by
  rw [bankOf_val, Configuration.foldOf_linear h, Nat.xor_zero]

theorem bankOf_folded {c : Configuration} (h : c.bankMapping = .folded) (l : Line) :
    (bankOf c l).val =
      l.toNat % c.bankCount.banks ^^^ l.toNat / 2 ^ c.foldShift % c.bankCount.banks := by
  rw [bankOf_val, Configuration.foldOf_folded h]

/-- The lines of an aligned block share the number that is folded onto them: a fold shift in range takes away more than
the bits in which they differ (R85). -/
theorem Configuration.foldOf_block {c : Configuration} (hs : 6 ≤ c.foldShift) (k : Nat) {i : Nat}
    (hi : i < c.bankCount.banks) : c.foldOf (k * c.bankCount.banks + i) = c.foldOf (k * c.bankCount.banks) := by
  obtain ⟨j, hj, hB⟩ := c.bankCount.banks_eq_two_pow
  have hsplit : 2 ^ c.foldShift = c.bankCount.banks * 2 ^ (c.foldShift - j) := by
    rw [hB, ← pow_add]; congr 1; omega
  have hdiv : (k * c.bankCount.banks + i) / 2 ^ c.foldShift = k * c.bankCount.banks / 2 ^ c.foldShift := by
    rw [hsplit, ← Nat.div_div_eq_div_mul, ← Nat.div_div_eq_div_mul, Nat.mul_div_cancel _ c.bankCount.banks_pos,
      Nat.mul_comm k, Nat.mul_add_div c.bankCount.banks_pos, Nat.div_eq_of_lt hi, Nat.add_zero]
  unfold Configuration.foldOf
  rw [hdiv]

/-- The bank of line i of the aligned block k is i, exclusive-or the one number folded onto the block's lines (R85). -/
theorem bankOf_block {c : Configuration} (hs : 6 ≤ c.foldShift) {k i : Nat} (hi : i < c.bankCount.banks)
    (hk : k * c.bankCount.banks + c.bankCount.banks ≤ 2 ^ 34) :
    (bankOf c (BitVec.ofNat 34 (k * c.bankCount.banks + i))).val = i ^^^ c.foldOf (k * c.bankCount.banks) := by
  have hmod : (k * c.bankCount.banks + i) % c.bankCount.banks = i := by
    rw [Nat.mul_comm, Nat.mul_add_mod, Nat.mod_eq_of_lt hi]
  have hline : k * c.bankCount.banks + i < 2 ^ 34 := lt_of_lt_of_le (Nat.add_lt_add_left hi _) hk
  rw [bankOf_val, BitVec.toNat_ofNat, Nat.mod_eq_of_lt hline, hmod, Configuration.foldOf_block hs k hi]

/-- An aligned block of B consecutive lines covers all B banks: exclusive-or with one fixed number is its own inverse, so it
permutes them (R85). -/
theorem aligned_block_covers_bank {c : Configuration} (hs : 6 ≤ c.foldShift) {k : Nat}
    (hk : k * c.bankCount.banks + c.bankCount.banks ≤ 2 ^ 34) {b : BankNo} (hb : b.val < c.bankCount.banks) :
    ∃ i < c.bankCount.banks, bankOf c (BitVec.ofNat 34 (k * c.bankCount.banks + i)) = b := by
  have hi := BankCount.xor_lt hb (c.foldOf_lt (k * c.bankCount.banks))
  exact ⟨_, hi, Fin.ext ((bankOf_block hs hi hk).trans (Nat.xor_xor_cancel_right _ _))⟩

/-- Settles O20, by the one formula of both mappings: the line address modulo B, exclusive-or what is folded onto it. -/
theorem bankMappingFollowsTheConfiguration : Obligations.BankMappingFollowsTheConfiguration := by
  intro c B hB
  obtain rfl : B = c.bankCount.banks := by
    rw [hB]; cases c.bankCount <;> rfl
  exact ⟨fun l => ⟨bankOf_lt c l, fun h => bankOf_linear h l, fun h => bankOf_folded h l⟩,
    fun k b hs hk hb => aligned_block_covers_bank hs hk hb⟩

/-- Settles O21: the table of R86 is computed, and the digits of a line are its bank's two numbers for every line. -/
theorem listedLinesHaveTheListedBanks : Obligations.ListedLinesHaveTheListedBanks := by
  exact ⟨by decide, by decide, by decide, by decide, fun l => bankOf_folded rfl l, by decide, by decide, by decide⟩

end Sys2Proof.Machine
end

section
namespace Sys2Proof.Machine

open Sys2Proof

/-! ## Operations outstanding at the memory controller (R88, R116)

The laws of the tags, the banks and the link look at no more of a state than its outstanding operations, its tag and bank
records, its link and its configuration. What a step can do to these is said once, as a relation with few cases. -/

/-- An outstanding operation: its entry's place in the arrival order, its tag and its line. -/
structure Operation where
  arrival : Nat
  tag : Tag
  line : Option Line

/-- The operation of an ISSUED or ORPHANED entry. -/
def Entry.operation (e : Entry) : Option Operation :=
  match e.state with
  | .issued k => some ⟨e.arrival, k, e.line⟩
  | .orphaned k => some ⟨e.arrival, k, e.line⟩
  | .deferred _ => none
  | .held _ => none
  | .ready => none
  | .answered _ _ => none

/-- The outstanding operations, in arrival order. -/
def State.operations (s : State) : List Operation := s.entries.filterMap Entry.operation

/-- What the laws of tags, banks and link look at. -/
structure Downstream where
  config : Configuration
  operations : List Operation
  tags : Vector TagRecord 12
  banks : Vector BankRecord 32
  link : LinkState

/-- What the laws of tags, banks and link look at in s. -/
def State.downstream (s : State) : Downstream := ⟨s.config, s.operations, s.tags, s.banks, s.link⟩

theorem Entry.operation_eq_some_iff (e : Entry) (o : Operation) :
    e.operation = some o ↔
      (e.state = .issued o.tag ∨ e.state = .orphaned o.tag) ∧ e.arrival = o.arrival ∧ e.line = o.line := by
  obtain ⟨n, k, l⟩ := o
  unfold Entry.operation
  cases e.state <;> simp [and_left_comm]

theorem Entry.operation_of_state {e : Entry} {k : Tag} (h : e.state = .issued k ∨ e.state = .orphaned k) :
    e.operation = some ⟨e.arrival, k, e.line⟩ := (e.operation_eq_some_iff _).mpr ⟨h, rfl, rfl⟩

theorem Entry.isOutstanding_eq (e : Entry) : e.isOutstanding = e.operation.isSome := by
  unfold Entry.isOutstanding Entry.isIssued Entry.isOrphaned Entry.operation
  cases e.state <;> rfl

theorem Entry.operation_of_not_outstanding {e : Entry} (h : e.isOutstanding = false) : e.operation = none := by
  rwa [e.isOutstanding_eq, Option.isSome_eq_false_iff, Option.isNone_iff_eq_none] at h

@[simp] theorem Entry.answer_operation (e : Entry) (st : Status) (d : Option Data) (k : Nat) :
    (e.answer st d k).operation = none := rfl

theorem State.mem_operations (s : State) (o : Operation) :
    o ∈ s.operations ↔ ∃ e ∈ s.entries,
      (e.state = .issued o.tag ∨ e.state = .orphaned o.tag) ∧ e.arrival = o.arrival ∧ e.line = o.line := by
  simp only [State.operations, List.mem_filterMap, Entry.operation_eq_some_iff]

theorem operations_eq_of_filter_eq {s t : State}
    (h : t.entries.filter Entry.isOutstanding = s.entries.filter Entry.isOutstanding) : t.operations = s.operations := by
  have hfilter : ∀ l : List Entry,
      l.filterMap Entry.operation = (l.filter Entry.isOutstanding).filterMap Entry.operation := by
    intro l
    rw [List.filterMap_filter]
    refine List.filterMap_congr fun e _ => ?_
    cases he : e.isOutstanding with
    | true => rfl
    | false => exact Entry.operation_of_not_outstanding he
  rw [State.operations, hfilter, h, ← hfilter, State.operations]

/-- Along a move of the table the operations are those that the move leaves of each entry. -/
theorem Evolves.operations {R : Entry → Option Entry → Prop} {es fs : List Entry} (h : Evolves R es fs)
    (f : Entry → Option Operation) (hf : ∀ x ∈ es, ∀ o, R x o → o.bind Entry.operation = f x) :
    fs.filterMap Entry.operation = es.filterMap f := by
  obtain ⟨g, rfl, hg⟩ := h
  rw [List.filterMap_filterMap]
  exact List.filterMap_congr fun x hx => hf x hx _ (hg x hx)

/-! ## The laws of tags, banks and link (R88, R116, R117) -/

/-- The bank of an operation. -/
def Downstream.bankOfOperation (d : Downstream) (o : Operation) : Option BankNo := o.line.map (bankOf d.config)

/-- No two operations share a place in the arrival order. -/
def Downstream.Distinct (d : Downstream) : Prop :=
  ∀ x ∈ d.operations, ∀ y ∈ d.operations, x.arrival = y.arrival → x = y

/-- The BUSY tags and the operations are bound to each other (R116). -/
def Downstream.TagsBound (d : Downstream) : Prop :=
  (∀ (k : Tag) (n i : Nat), d.tags[k] = .busy n i → ∃ o ∈ d.operations, o.arrival = n ∧ o.tag = k) ∧
  ∀ o ∈ d.operations, ∃ i, d.tags[o.tag] = .busy o.arrival i

/-- Every tag is FREE while the link is DOWN (R117). -/
def Downstream.FreeWhileDown (d : Downstream) : Prop := d.link = .down → ∀ k : Tag, d.tags[k] = .free

/-- A bank is BUSY with a tag exactly when an operation with that tag maps to it (R88). -/
def Downstream.BanksBound (d : Downstream) : Prop :=
  ∀ (b : BankNo) (k : Tag), d.banks[b] = .busy k ↔ ∃ o ∈ d.operations, o.tag = k ∧ d.bankOfOperation o = some b

theorem ArrivalLaw.distinct {s : State} (hs : ArrivalLaw s) : s.downstream.Distinct := by
  intro x hx y hy hxy
  obtain ⟨e, he, hex⟩ := List.mem_filterMap.mp hx
  obtain ⟨f, hf, hfy⟩ := List.mem_filterMap.mp hy
  have hea := ((e.operation_eq_some_iff x).mp hex).2.1
  have hfa := ((f.operation_eq_some_iff y).mp hfy).2.1
  obtain rfl := hs.unique he hf (by rw [hea, hfa, hxy])
  exact Option.some.inj (hex.symm.trans hfy)

theorem tagLaw_iff (s : State) : TagLaw s ↔ s.downstream.TagsBound := by
  constructor
  · rintro ⟨htags, hentries⟩
    refine ⟨fun k n i h => ?_, fun o ho => ?_⟩
    · obtain ⟨e, he, rfl, hstate⟩ := htags k n i h
      exact ⟨_, (s.mem_operations ⟨e.arrival, k, e.line⟩).mpr ⟨e, he, hstate, rfl, rfl⟩, rfl, rfl⟩
    · obtain ⟨e, he, hstate, harr, -⟩ := (s.mem_operations o).mp ho
      exact harr ▸ hentries e he o.tag hstate
  · rintro ⟨htags, hops⟩
    refine ⟨fun k n i h => ?_, fun e he k hstate => ?_⟩
    · obtain ⟨o, ho, rfl, rfl⟩ := htags k n i h
      obtain ⟨e, he, hstate, harr, -⟩ := (s.mem_operations o).mp ho
      exact ⟨e, he, harr, hstate⟩
    · exact hops _ ((s.mem_operations ⟨e.arrival, k, e.line⟩).mpr ⟨e, he, hstate, rfl, rfl⟩)

theorem linkLaw_iff (s : State) : LinkLaw s ↔ s.downstream.FreeWhileDown := Iff.rfl

theorem bankLaw_iff (s : State) : BankLaw s ↔ s.downstream.BanksBound := by
  refine forall_congr' fun b => forall_congr' fun k => iff_congr Iff.rfl ⟨?_, ?_⟩
  · rintro ⟨e, he, hstate, hbank⟩
    exact ⟨_, (s.mem_operations ⟨e.arrival, k, e.line⟩).mpr ⟨e, he, hstate, rfl, rfl⟩, rfl, hbank⟩
  · rintro ⟨o, ho, rfl, hbank⟩
    obtain ⟨e, he, hstate, -, hline⟩ := (s.mem_operations o).mp ho
    refine ⟨e, he, hstate, ?_⟩
    rw [State.bankOfEntry, hline]
    exact hbank

/-! ## What a step can do to them -/

/-- The operations of the entry at place n are no longer outstanding. -/
def Downstream.without (d : Downstream) (n : Nat) : Downstream :=
  { d with operations := d.operations.filter fun o => o.arrival != n }

/-- From d to the second, in one step: nothing changes; the link comes UP; a bank's recovery ends; a QUARANTINED tag is
freed; a dispatch binds an operation to a FREE tag and to its IDLE bank; an operation's tag and bank leave BUSY with it; all
operations end at once; or, in a part state that takes configuration writes, the configuration changes. -/
inductive Downstream.Moves (stopped : Bool) (d : Downstream) : Downstream → Prop
  | stays : Moves stopped d d
  | comesUp : Moves stopped d { d with link := .up }
  | recovers (b : BankNo) (i : Nat) : d.banks[b] = .recovering i → Moves stopped d { d with banks := d.banks.set b .idle }
  | freesQuarantined (k : Tag) (op : LinkOperation) (l : Line) (p : Port) : d.tags[k] = .quarantined op l p →
      Moves stopped d { d with tags := d.tags.set k .free }
  | binds (o : Operation) (l : Line) (i : Nat) (ops : List Operation) : d.link = .up → o.line = some l →
      d.tags[o.tag] = .free → d.banks[bankOf d.config l] = .idle → (∀ x, x ∈ ops ↔ x = o ∨ x ∈ d.operations) →
      Moves stopped d { d with
        operations := ops
        tags := d.tags.set o.tag (.busy o.arrival i)
        banks := d.banks.set (bankOf d.config l) (.busy o.tag) }
  | ends (o : Operation) (l : Line) (r : TagRecord) (c : BankRecord) : o ∈ d.operations → o.line = some l →
      (∀ n i, r ≠ .busy n i) → (∀ k, c ≠ .busy k) →
      Moves stopped d { d.without o.arrival with
        tags := d.tags.set o.tag r
        banks := d.banks.set (bankOf d.config l) c }
  | clears (c : Configuration) (link : LinkState) :
      Moves stopped d ⟨c, [], Vector.replicate 12 .free, Vector.replicate 32 .idle, link⟩
  | reconfigures (c : Configuration) : stopped = true → Moves stopped d { d with config := c }

theorem vector_set_get {α : Type} {n : Nat} (v : Vector α n) (i j : Fin n) (x : α) :
    (v.set i x)[j] = if i = j then x else v[j] := by
  simp [Vector.getElem_set, Fin.ext_iff]

namespace Downstream

variable {stopped : Bool} {d d' : Downstream}

/-- A FREE tag carries no operation. -/
theorem TagsBound.ne_of_free (h : d.TagsBound) {k : Tag} (hk : d.tags[k] = .free) {o : Operation}
    (ho : o ∈ d.operations) : k ≠ o.tag := by
  rintro rfl
  obtain ⟨i, hi⟩ := h.2 o ho
  cases hk.symm.trans hi

theorem TagsBound.eq_of_tag_eq (h : d.TagsBound) {x y : Operation} (hx : x ∈ d.operations) (hy : y ∈ d.operations)
    (hxy : x.tag = y.tag) : x.arrival = y.arrival := by
  obtain ⟨i, hi⟩ := h.2 x hx
  obtain ⟨j, hj⟩ := h.2 y hy
  simp only [hxy, hj, TagRecord.busy.injEq] at hi
  exact hi.1.symm

/-- Operations of one bank have one tag (R88). -/
theorem BanksBound.tag_eq (h : d.BanksBound) {x y : Operation} {b : BankNo} (hx : x ∈ d.operations)
    (hy : y ∈ d.operations) (hxb : d.bankOfOperation x = some b) (hyb : d.bankOfOperation y = some b) : x.tag = y.tag := by
  have hbx := (h b x.tag).mpr ⟨x, hx, rfl, hxb⟩
  have hby := (h b y.tag).mpr ⟨y, hy, rfl, hyb⟩
  simpa using hbx.symm.trans hby

theorem Moves.tagsBound (h : d.Moves stopped d') (hd : d.Distinct) (ht : d.TagsBound) : d'.TagsBound := by
  cases h with
  | stays => exact ht
  | comesUp => exact ht
  | recovers => exact ht
  | reconfigures => exact ht
  | clears => exact ⟨by simp, by simp⟩
  | freesQuarantined k op l p hk =>
    refine ⟨fun j n i hj => ?_, fun o ho => ?_⟩
    · simp only [vector_set_get] at hj
      split at hj
      · cases hj
      · exact ht.1 j n i hj
    · obtain ⟨i, hi⟩ := ht.2 o ho
      refine ⟨i, ?_⟩
      simp only [vector_set_get]
      rw [if_neg]
      · exact hi
      · rintro rfl
        cases hk.symm.trans hi
  | binds o l i ops _ _ hfree _ hops =>
    refine ⟨fun j n i' hj => ?_, fun x hx => ?_⟩
    · simp only [vector_set_get] at hj
      split at hj
      · cases hj
        exact ⟨o, (hops o).mpr (.inl rfl), rfl, ‹_›⟩
      · obtain ⟨x, hx, hxj⟩ := ht.1 j n i' hj
        exact ⟨x, (hops x).mpr (.inr hx), hxj⟩
    · simp only [vector_set_get]
      rcases (hops x).mp hx with rfl | hx
      · exact ⟨i, if_pos rfl⟩
      · rw [if_neg]
        · exact ht.2 x hx
        · exact ht.ne_of_free hfree hx
  | ends o l r c ho _ hr _ =>
    refine ⟨fun j n i hj => ?_, fun x hx => ?_⟩
    · simp only [vector_set_get] at hj
      split at hj
      · exact (hr n i hj).elim
      · rename_i hoj
        obtain ⟨x, hx, hxn, hxj⟩ := ht.1 j n i hj
        refine ⟨x, List.mem_filter.mpr ⟨hx, ?_⟩, hxn, hxj⟩
        rw [bne_iff_ne]
        intro hxo
        exact hoj (hd x hx o ho hxo ▸ hxj)
    · obtain ⟨hx, hxo⟩ := List.mem_filter.mp hx
      rw [bne_iff_ne] at hxo
      simp only [vector_set_get]
      rw [if_neg]
      · exact ht.2 x hx
      · intro hox
        exact hxo (ht.eq_of_tag_eq hx ho hox.symm)

theorem Moves.freeWhileDown (h : d.Moves stopped d') (ht : d.TagsBound) (hl : d.FreeWhileDown) : d'.FreeWhileDown := by
  cases h with
  | stays => exact hl
  | comesUp => rintro ⟨⟩
  | recovers => exact hl
  | reconfigures => exact hl
  | clears => intro _ k; simp
  | freesQuarantined k op l p hk =>
    intro hdown
    cases hk.symm.trans (hl hdown k)
  | binds o l i ops hup =>
    intro hdown
    cases hup.symm.trans hdown
  | ends o l r c ho =>
    intro hdown
    exact (ht.ne_of_free (hl hdown o.tag) ho rfl).elim

theorem Moves.banksBound (h : d.Moves stopped d') (hstop : stopped = true → d.operations = []) (hd : d.Distinct)
    (ht : d.TagsBound) (hb : d.BanksBound) : d'.BanksBound := by
  cases h with
  | stays => exact hb
  | comesUp => exact hb
  | freesQuarantined => exact hb
  | clears => intro b k; simp
  | reconfigures c hs =>
    intro b k
    have hnone := hb b k
    simp only [hstop hs, List.not_mem_nil, false_and, exists_false] at hnone ⊢
    exact hnone
  | recovers b i hi =>
    intro j k
    refine Iff.trans ?_ (hb j k)
    simp only [vector_set_get]
    split
    · subst j
      simp [hi]
    · rfl
  | binds o l i ops _ hline hfree hidle hops =>
    intro j k
    have hold : d.banks[j] = .busy k → j ≠ bankOf d.config l := by
      rintro hj rfl
      cases hidle.symm.trans hj
    have hbank : d.bankOfOperation o = some (bankOf d.config l) := by rw [bankOfOperation, hline]; rfl
    simp only [vector_set_get]
    constructor
    · intro hj
      split at hj
      · cases hj
        subst j
        exact ⟨o, (hops o).mpr (.inl rfl), rfl, hbank⟩
      · obtain ⟨x, hx, hxk⟩ := (hb j k).mp hj
        exact ⟨x, (hops x).mpr (.inr hx), hxk⟩
    · rintro ⟨x, hx, rfl, hxj⟩
      rcases (hops x).mp hx with rfl | hx
      · rw [if_pos (Option.some.inj (hbank.symm.trans hxj))]
      · have hbusy := (hb j x.tag).mpr ⟨x, hx, rfl, hxj⟩
        rw [if_neg (hold hbusy).symm]
        exact hbusy
  | ends o l r c ho hline _ hc =>
    intro j k
    have hbank : d.bankOfOperation o = some (bankOf d.config l) := by rw [bankOfOperation, hline]; rfl
    simp only [vector_set_get]
    constructor
    · intro hj
      split at hj
      · exact (hc k hj).elim
      · rename_i hne
        obtain ⟨x, hx, hxk, hxj⟩ := (hb j k).mp hj
        refine ⟨x, List.mem_filter.mpr ⟨hx, ?_⟩, hxk, hxj⟩
        rw [bne_iff_ne]
        intro hxo
        obtain rfl := hd x hx o ho hxo
        exact hne (Option.some.inj (hbank.symm.trans hxj))
    · rintro ⟨x, hx, rfl, hxj⟩
      obtain ⟨hx, hxo⟩ := List.mem_filter.mp hx
      rw [bne_iff_ne] at hxo
      rw [if_neg]
      · exact (hb j x.tag).mpr ⟨x, hx, rfl, hxj⟩
      · rintro rfl
        exact hxo (ht.eq_of_tag_eq hx ho (hb.tag_eq hx ho hxj hbank))

end Downstream

end Sys2Proof.Machine
end

section
namespace Sys2Proof.Machine

open Sys2Proof

/-! ## Happenings that leave the outstanding operations -/

/-- A move within the frame of the table's work that leaves every entry its operation. -/
theorem downstream_of_moves {R : Entry → Option Entry → Prop} {s t : State} (hm : TableMoves R s t) (hf : TableOnly s t)
    (hR : ∀ x ∈ s.entries, ∀ o, R x o → o.bind Entry.operation = x.operation) : t.downstream = s.downstream := by
  have hops : t.operations = s.operations := hm.entries.operations Entry.operation hR
  simp only [State.downstream, hops, hf.config, hf.tags, hf.banks, hf.link]

/-- A change that keeps the entries whose operations are outstanding. -/
theorem downstream_of_outstanding {s t : State} (hf : TableOnly s t)
    (h : t.entries.filter Entry.isOutstanding = s.entries.filter Entry.isOutstanding) : t.downstream = s.downstream := by
  simp only [State.downstream, operations_eq_of_filter_eq h, hf.config, hf.tags, hf.banks, hf.link]

theorem settle_downstream {s : State} (hs : ArrivalLaw s) : s.settle.downstream = s.downstream :=
  downstream_of_outstanding (settle_tableOnly s) (settle_outstanding hs)

theorem releaseGuard_downstream (s : State) (g : GuardNo) : (s.releaseGuard g).downstream = s.downstream :=
  downstream_of_moves (releaseGuard_moves s g) (releaseGuard_tableOnly s g) fun x _ o h => by
    cases h with
    | stays => rfl
    | rejoins k hk => simp [Entry.operation, hk]

theorem placeEntry_downstream {s : State} (hs : ArrivalLaw s) {e : Entry} (he : e ∈ s.entries)
    (hans : e.isAnswered = true) : (s.placeEntry e).downstream = s.downstream := by
  refine downstream_of_outstanding (placeEntry_tableOnly s e) (placeEntry_filter hs he ?_)
  rw [Bool.eq_false_iff, ne_eq, e.isOutstanding_iff_phase, e.isAnswered_iff_phase.mp hans]
  decide

@[simp] theorem State.endFencing_downstream (s : State) (p : Port) : (s.endFencing p).downstream = s.downstream := by
  rw [s.endFencing_frame p]; rfl

@[simp] theorem State.reportEmpty_downstream (s : State) : s.reportEmpty.downstream = s.downstream := by
  rw [s.reportEmpty_frame]; rfl

@[simp] theorem State.recordFault_downstream (s : State) (l : Line) (c : FaultCause) (p : Port) :
    (s.recordFault l c p).downstream = s.downstream := by
  rw [s.recordFault_frame]; rfl

@[simp] theorem State.endReserve_downstream (s : State) (e : Entry) (l : Line) :
    (s.endReserve e l).downstream = s.downstream := by
  unfold State.endReserve; split <;> rfl

@[simp] theorem State.faultWrite_downstream (s : State) (e : Entry) (l : Line) (c : FaultCause) :
    (s.faultWrite e l c).downstream = s.downstream := by
  unfold State.faultWrite; split <;> simp

@[simp] theorem State.completeReserve_downstream (s : State) (e : Entry) (l : Line) (o : CompletionOutcome) :
    (s.completeReserve e l o).downstream = s.downstream := by
  unfold State.completeReserve; split <;> simp

@[simp] theorem State.completeFault_downstream (s : State) (e : Entry) (l : Line) (o : CompletionOutcome) :
    (s.completeFault e l o).downstream = s.downstream := by
  cases o with
  | dataError => exact s.recordFault_downstream l _ e.port
  | doneCorrected =>
    simp only [State.completeFault]
    split
    · rfl
    · split <;> rfl
  | done =>
    simp only [State.completeFault]
    split <;> rfl

@[simp] theorem State.dispatchReservation_downstream (s : State) (e : Entry) (l : Line) :
    (s.dispatchReservation e l).downstream = s.downstream := by
  unfold State.dispatchReservation; split <;> rfl

@[simp] theorem State.expireReservation_downstream (s : State) (h : Holder) :
    (s.expireReservation h).downstream = s.downstream := by
  unfold State.expireReservation; split <;> rfl

@[simp] theorem State.goOnline_downstream (s : State) : s.goOnline.1.downstream = s.downstream := by
  have hcheck : s.checkOnline.1.downstream = s.downstream := by
    unfold State.checkOnline; split <;> rfl
  unfold State.goOnline
  split
  · exact hcheck
  · exact hcheck
  · rfl
  · rfl

@[simp] theorem State.drain_downstream (s : State) : s.drain.1.downstream = s.downstream := by
  unfold State.drain
  split
  · split <;> rfl
  all_goals rfl

@[simp] theorem State.clearFault_downstream (s : State) (l : Line) : (s.clearFault l).1.downstream = s.downstream := by
  unfold State.clearFault; split <;> rfl

@[simp] theorem State.writeSelector_downstream (s : State) (v : Word) : (s.writeSelector v).downstream = s.downstream := by
  unfold State.writeSelector; split <;> rfl

@[simp] theorem State.writeOther_downstream (s : State) (w : OtherWord) (v : Word) :
    (s.writeOther w v).downstream = s.downstream := by
  cases w <;> rfl

@[simp] theorem State.quietFrame_downstream (s : State) (f : QuietFrame) : (s.quietFrame f).downstream = s.downstream := by
  obtain ⟨q, o, m, h, -⟩ := s.quietFrame_eq f
  rw [h]; rfl

@[simp] theorem State.readFrame_downstream (s : State) (a : Byte) (n : Nat) :
    (s.readFrame a n).downstream = s.downstream := s.quietFrame_downstream (.read a n)

@[simp] theorem State.releasePower_downstream (s : State) : s.releasePower.downstream = s.downstream := by
  unfold State.releasePower; split <;> rfl

@[simp] theorem State.endCommand_downstream (s : State) (code : Byte) (r : CommandResult) :
    (s.endCommand code r).downstream = s.downstream := rfl

/-! ### Port resets (R19, R22, R88) -/

/-- A port reset makes an ISSUED entry ORPHANED in place: it keeps its tag. -/
@[simp] theorem Entry.orphan_operation (e : Entry) (p : Port) : (e.orphan p).operation = e.operation := by
  cases hi : e.isIssued with
  | false => rw [Entry.orphan_of_not_issued p hi]
  | true =>
    by_cases hp : e.port = p
    · obtain ⟨k, hk⟩ := e.isIssued_iff.mp hi
      subst hp
      rw [Entry.orphan_of_issued hk]
      simp [Entry.operation, hk]
    · rw [Entry.orphan, if_neg hp]

/-- After step 4 an entry of the reset port that is not ORPHANED has no operation. -/
theorem Entry.orphan_operation_eq_none {e : Entry} {p : Port} (hp : e.port = p) (ho : (e.orphan p).isOrphaned = false) :
    e.operation = none := by
  subst hp
  by_contra hne
  obtain ⟨o, hop⟩ := Option.ne_none_iff_exists'.mp hne
  obtain ⟨hstate, -, -⟩ := (e.operation_eq_some_iff o).mp hop
  obtain ⟨-, h⟩ := (e.orphan_isOrphaned_iff _).mpr ⟨o.tag, hstate, rfl⟩
  rcases hstate with hk | hk
  · rw [Entry.orphan_of_issued hk] at ho
    cases ho
  · rw [Entry.orphan_of_not_issued _ (by simp [Entry.isIssued, hk])] at ho
    simp [Entry.isOrphaned, hk] at ho

theorem resetEntries_downstream {s : State} (hs : ArrivalLaw s) (p : Port) :
    (s.resetEntries p).downstream = s.downstream := by
  have horphan := orphanEntries_follows 0 s p
  have hremove := removeEntries_follows 0 (s.setEntries (s.entries.map fun e => e.orphan p))
    fun e => e.port == p && !e.isOrphaned
  have hkept : (s.setEntries (s.entries.map fun e => e.orphan p)).downstream = s.downstream :=
    downstream_of_moves (setEntries_moves (R := fun x o => o = some (x.orphan p)) (.map _ fun _ _ => rfl))
      (setEntries_tableOnly s _) fun x _ o h => by simp [h]
  unfold State.resetEntries
  rw [settle_downstream ((hs.of_moves horphan.requests).of_moves hremove.requests), ← hkept]
  refine downstream_of_moves (removeEntries_moves _ _) (removeEntries_tableOnly _ _) fun x hx o h => ?_
  obtain ⟨e, -, rfl⟩ := List.mem_map.mp hx
  split at h
  · rename_i hgone
    simp only [Bool.and_eq_true, beq_iff_eq, Bool.not_eq_true', Entry.orphan_port] at hgone
    rw [h, Entry.orphan_operation, Entry.orphan_operation_eq_none hgone.1 hgone.2]
    rfl
  · rw [h]; rfl

theorem resetGuards_downstream {s : State} (hs : ArrivalLaw s) (p : Port) :
    (s.resetGuards p).downstream = s.downstream := by
  have hfold : ArrivalLaw (allGuards.foldl (State.releaseIfOwned p) s) ∧
      (allGuards.foldl (State.releaseIfOwned p) s).downstream = s.downstream :=
    List.foldlRecOn (motive := fun t => ArrivalLaw t ∧ t.downstream = s.downstream) allGuards _ ⟨hs, rfl⟩
      fun t ⟨ha, ht⟩ g _ => by
        unfold State.releaseIfOwned
        split
        · exact ⟨ha.of_moves (releaseGuard_follows 0 t g).requests, (releaseGuard_downstream t g).trans ht⟩
        · exact ⟨ha, ht⟩
  exact (settle_downstream hfold.1).trans hfold.2

theorem resetPort_downstream {s : State} (hs : ArrivalLaw s) (p : Port) : (s.resetPort p).downstream = s.downstream := by
  have hclear : ArrivalLaw ((s.setPort p ⟨.fenced, []⟩).clearHolders p) := hs
  have hentries := arrivalLaw_happening.resetEntries hclear p
  unfold State.resetPort
  rw [State.endFencing_downstream, resetGuards_downstream hentries, resetEntries_downstream hclear]
  rfl

/-! ### Requests and deliveries -/

theorem enter_downstream (s : State) (p : Port) (m : Request) : (s.enter p m).downstream = s.downstream := by
  have hnone : (s.entrant p m).operation = none := by
    refine Entry.operation_of_not_outstanding ?_
    have hle := entrant_phase_le s p m
    rw [Bool.eq_false_iff, ne_eq, Entry.isOutstanding_iff_phase]
    omega
  have hops : (s.enter p m).operations = s.operations := by
    simp [State.operations, enter_entries, hnone]
  simp only [State.downstream, hops]
  rfl

theorem takeRequest_downstream {s : State} (hs : ArrivalLaw s) (p : Port) (m : Request) :
    (s.takeRequest p m).downstream = s.downstream := by
  unfold State.takeRequest
  split
  · rw [State.accept_eq, settle_downstream (hs.enter p m), enter_downstream]
  · dsimp only
    split <;> rfl

theorem takeFromWires_downstream {s : State} (hs : ArrivalLaw s) (p : Port) :
    (s.takeFromWires p).downstream = s.downstream := by
  unfold State.takeFromWires
  split
  · rfl
  · split
    · rename_i m rest _ _
      have htaken : ArrivalLaw { s with wires := s.wires.set p rest } := hs
      exact takeRequest_downstream htaken p m
    · rfl

theorem deliver_downstream {s : State} (hs : ArrivalLaw s) (p : Port) : (s.deliver p).downstream = s.downstream := by
  unfold State.deliver
  split
  · rfl
  · rename_i r rest _
    have htaken : ArrivalLaw
        { s.setPort p { s.ports[p] with responses := rest } with delivered := s.delivered ++ [(p, r)] } := hs
    unfold State.fillPlace
    split
    · rfl
    · rename_i e he
      obtain ⟨hmem, -, hans⟩ := firstAnswered_mem he
      exact placeEntry_downstream htaken hmem hans

theorem expireGuard_downstream {s : State} (hs : ArrivalLaw s) (g : GuardNo) :
    (s.expireGuard g).downstream = s.downstream := by
  unfold State.expireGuard
  split
  · rfl
  · rename_i l o i _
    have hposted : ArrivalLaw ((s.setReservation o { s.reservations[o] with failures := 0 }).post .guardExpired
      (some (portOf o)) (.line l)) := hs
    dsimp only
    rw [settle_downstream (hposted.of_moves (releaseGuard_follows 0 _ g).requests), releaseGuard_downstream]
    rfl

/-! ## The end of an operation (R18, R19, R122) -/

theorem Entry.operation_filter (x : Entry) (n : Nat) :
    (x.operation.filter fun o => o.arrival != n) = if x.arrival = n then none else x.operation := by
  cases hx : x.operation with
  | none => simp
  | some o => simp [Option.filter_some, ((x.operation_eq_some_iff o).mp hx).2.1]

/-- With the entry at place n its operation goes. -/
theorem AnsweredAt.operation {n : Nat} {x : Entry} {o : Option Entry} (h : AnsweredAt n x o) :
    o.bind Entry.operation = x.operation.filter fun o => o.arrival != n := by
  rw [x.operation_filter]
  cases h with
  | leaves hn => rw [if_pos hn]; rfl
  | answered st d k hn => rw [if_pos hn]; rfl
  | stays hn => rw [if_neg hn]; rfl

theorem AnsweredAt.downstream {n : Nat} {s t : State} (hm : TableMoves (AnsweredAt n) s t) (hf : TableOnly s t) :
    t.downstream = s.downstream.without n := by
  have hops : t.operations = s.operations.filter fun o => o.arrival != n := by
    rw [State.operations, State.operations, List.filter_filterMap]
    exact hm.entries.operations _ fun x _ o h => h.operation
  simp only [State.downstream, Downstream.without, hops, hf.config, hf.tags, hf.banks, hf.link]

theorem AnsweredAt.requests {n : Nat} {s t : State} (hm : TableMoves (AnsweredAt n) s t) :
    TableMoves (Each Entry.SameRequest) s t :=
  hm.mono fun _ _ _ h y hy => (h.follows (limit := 0) y hy).toSameRequest

/-- The end of an operation takes it, and no other, from those outstanding. -/
theorem endOperation_downstream {s : State} (hs : ArrivalLaw s) (e : Entry) (st : Status) (d : Option Data) :
    (s.endOperation e st d).downstream = s.downstream.without e.arrival := by
  have hleave : TableMoves (AnsweredAt e.arrival) s
      (s.setEntries (s.entries.filter fun x => x.arrival != e.arrival)) :=
    setEntries_moves (.filter _ fun x _ => by
      split
      · exact .stays (by simp_all)
      · exact .leaves (by simp_all))
  have hanswer := answer_moves s e.arrival st d
  unfold State.endOperation
  split
  · have hended := (settle_downstream (hs.of_moves (AnsweredAt.requests hleave))).trans
      (AnsweredAt.downstream hleave (setEntries_tableOnly s _))
    dsimp only
    split
    · rw [State.reportEmpty_downstream, State.endFencing_downstream, hended]
    · rw [State.endFencing_downstream, hended]
  · exact (settle_downstream (hs.of_moves (AnsweredAt.requests hanswer))).trans
      (AnsweredAt.downstream hanswer (answer_tableOnly s _ st d))

/-! ## Dispatches, completions, timeouts and the link (R104, R119, R124, R129) -/

/-- What the step from s to t does to the outstanding operations. -/
def State.Moves (s t : State) : Prop := s.downstream.Moves s.takesConfiguration t.downstream

theorem State.Moves.of_eq {s t : State} (h : t.downstream = s.downstream) : s.Moves t := by
  rw [State.Moves, h]; exact .stays

/-- The frame of a command ends with its result, which touches no operation. -/
theorem State.Moves.endCommand {s t : State} (h : s.Moves t) (code : Byte) (r : CommandResult) :
    s.Moves (t.endCommand code r) := by
  rw [State.Moves, State.endCommand_downstream]; exact h

theorem State.isCandidate_idle {s : State} {e : Entry} {l : Line} (h : s.isCandidate e = true) (hl : e.line = some l) :
    s.banks[bankOf s.config l] = .idle := by
  simp only [State.isCandidate, State.bankOfEntry, hl, Option.map_some, Bool.and_eq_true, beq_iff_eq] at h
  exact h.2

/-- A dispatch adds the operation of the chosen entry to those outstanding. -/
theorem bind_mem_operations {s : State} (hs : ArrivalLaw s) {e : Entry} (he : e ∈ s.candidates) (l : Line) (k : Tag)
    (x : Operation) : x ∈ (s.bind e l k).operations ↔ x = ⟨e.arrival, k, e.line⟩ ∨ x ∈ s.operations := by
  obtain ⟨hmem, hcand⟩ := List.mem_filter.mp he
  have hops : (s.bind e l k).operations =
      s.entries.filterMap fun y => if y = e then some ⟨e.arrival, k, e.line⟩ else y.operation := by
    refine (bind_moves s e l k).entries.operations _ fun y hy o h => ?_
    cases h with
    | issued hye => obtain rfl := hs.unique hy hmem hye; simp [Entry.operation]
    | passed hye =>
      rw [if_neg (fun h => hye (by rw [h]))]
      have hraise := raiseBypass_follows s e y
      simp [Entry.operation, raiseBypass_state, hraise.arrival, hraise.line]
  have hnone : e.operation = none := by simp [Entry.operation, State.isCandidate_ready hcand]
  rw [hops, State.operations, List.mem_filterMap, List.mem_filterMap]
  constructor
  · rintro ⟨y, hy, hyx⟩
    split at hyx
    · exact .inl (Option.some.inj hyx).symm
    · exact .inr ⟨y, hy, hyx⟩
  · rintro (rfl | ⟨y, hy, hyx⟩)
    · exact ⟨e, hmem, if_pos rfl⟩
    · refine ⟨y, hy, ?_⟩
      rw [if_neg]
      · exact hyx
      · rintro rfl
        cases hnone.symm.trans hyx

theorem dispatch_moves {s : State} (hs : ArrivalLaw s) : s.Moves s.dispatch := by
  unfold State.dispatch
  split
  · rename_i hmay
    split
    · rename_i k e hfree hchoice
      have he := choice_mem hchoice
      split
      · rename_i l hl
        have hup : s.link = .up := by
          simp only [State.mayDispatch, Bool.and_eq_true, beq_iff_eq] at hmay
          exact hmay.2
        have hk : s.tags[k] = .free := by simpa using List.find?_some hfree
        have hbound : ArrivalLaw ((s.bind e l k).dispatchReservation e l) :=
          arrivalLaw_happening.same (arrivalLaw_happening.binds l k he hs) (dispatchReservation_same _ e l)
        rw [State.Moves, State.dispatchEntry, settle_downstream hbound, State.dispatchReservation_downstream]
        exact .binds ⟨e.arrival, k, e.line⟩ l _ _ hup hl hk (State.isCandidate_idle (List.mem_filter.mp he).2 hl)
          (bind_mem_operations hs he l k)
      · exact .of_eq rfl
    all_goals exact .of_eq rfl
  · exact .of_eq rfl

/-- The entry bound to a BUSY tag (R116): it is in the table, and names a line. -/
theorem TagLaw.bound_entry {s : State} (ha : ArrivalLaw s) (hk : KindLaw s) (ht : TagLaw s) {k : Tag} {n i : Nat}
    (h : s.tags[k] = .busy n i) :
    ∃ e l, s.entryAt n = some e ∧ e.line = some l ∧ e.arrival = n ∧ ⟨n, k, some l⟩ ∈ s.operations := by
  obtain ⟨e, he, rfl, hstate⟩ := ht.1 k n i h
  have hout : e.phase = 3 ∨ e.phase = 4 := by
    rw [← e.isOutstanding_iff_phase, e.isOutstanding_eq, Entry.operation_of_state hstate]; rfl
  have hline : e.line ≠ none := by
    intro hnone
    have hparked := (hk e he).2 ((hk e he).1.mp hnone)
    rw [e.isHeld_iff_phase, e.isAnswered_iff_phase] at hparked
    omega
  obtain ⟨l, hl⟩ := Option.ne_none_iff_exists'.mp hline
  exact ⟨e, l, ha.entryAt he, hl, rfl, (s.mem_operations _).mpr ⟨e, he, hstate, rfl, hl⟩⟩

theorem recoveredBank_not_busy (c : Configuration) (k : Tag) : recoveredBank c ≠ .busy k := by
  unfold recoveredBank; split <;> simp

/-- The end of the operation of tag k, with what the reservations and the fault list make of it in u. -/
theorem moves_of_ended {s u : State} {k : Tag} {e : Entry} {l : Line} {r : TagRecord} (hr : ∀ n i, r ≠ .busy n i)
    (hmem : ⟨e.arrival, k, some l⟩ ∈ s.operations) (hu : ArrivalLaw u)
    (hd : u.downstream = ((s.setTag k r).endBank l).downstream) (st : Status) (d : Option Data) :
    s.Moves (u.endOperation e st d) := by
  rw [State.Moves, endOperation_downstream hu, hd]
  exact .ends ⟨e.arrival, k, some l⟩ l r (recoveredBank s.config) hmem rfl hr (recoveredBank_not_busy s.config)

theorem completeEntry_moves {s : State} (hs : ArrivalLaw s) {k : Tag} {e : Entry} {l : Line}
    (hmem : ⟨e.arrival, k, some l⟩ ∈ s.operations) (m : Completion) : s.Moves (s.completeEntry k e l m) := by
  have hended : ArrivalLaw ((s.setTag k .free).endBank l) := hs
  have hu := arrivalLaw_happening.same hended ((completeReserve_same _ e l (effectiveOutcome e m)).trans
    (completeFault_same _ e l (effectiveOutcome e m)))
  exact moves_of_ended (r := .free) (by simp) hmem hu (by simp) _ _

theorem timeOutEntry_moves {s : State} (hs : ArrivalLaw s) {k : Tag} {e : Entry} {l : Line}
    (hmem : ⟨e.arrival, k, some l⟩ ∈ s.operations) : s.Moves (s.timeOutEntry k e l) := by
  have hended : ArrivalLaw ((s.setTag k (.quarantined (operationOf e.kind) l e.port)).endBank l) := hs
  have hu := arrivalLaw_happening.same hended ((endReserve_same _ e l).trans (faultWrite_same _ e l .writeTimeout))
  exact moves_of_ended (r := .quarantined (operationOf e.kind) l e.port) (by simp) hmem hu (by simp) .timeout none

theorem complete_moves {s : State} (ha : ArrivalLaw s) (hk : KindLaw s) (ht : TagLaw s) (m : Completion) :
    s.Moves (s.complete m) := by
  unfold State.complete
  split
  · rename_i hlt
    cases htag : s.tags[(⟨m.tag, hlt⟩ : Tag)] with
    | free => simp only [State.completeTag, htag]; exact .of_eq rfl
    | quarantined op l p => simp only [State.completeTag, htag]; exact .freesQuarantined ⟨m.tag, hlt⟩ op l p htag
    | busy n i =>
      obtain ⟨e, l, hentry, hline, rfl, hmem⟩ := ht.bound_entry ha hk htag
      simp only [State.completeTag, htag, hentry, hline]
      exact completeEntry_moves ha hmem m
  · exact .of_eq rfl

theorem timeOut_moves {s : State} (ha : ArrivalLaw s) (hk : KindLaw s) (ht : TagLaw s) (k : Tag) :
    s.Moves (s.timeOut k) := by
  cases htag : s.tags[k] with
  | free => simp only [State.timeOut, htag]; exact .of_eq rfl
  | quarantined op l p => simp only [State.timeOut, htag]; exact .of_eq rfl
  | busy n i =>
    obtain ⟨e, l, hentry, hline, rfl, hmem⟩ := ht.bound_entry ha hk htag
    simp only [State.timeOut, htag, hentry, hline]
    exact timeOutEntry_moves ha hmem

/-- The ends of the operations of the entries es leave none of them outstanding. -/
theorem endOperations_left (es : List Entry) {s : State} (hs : ArrivalLaw s) {o : Operation}
    (ho : o ∈ (es.foldl (fun s e => s.endOperation e .aborted none) s).operations) :
    o ∈ s.operations ∧ ∀ e ∈ es, o.arrival ≠ e.arrival := by
  induction es generalizing s with
  | nil => exact ⟨ho, by simp⟩
  | cons e es ih =>
    obtain ⟨hmem, hes⟩ := ih (arrivalLaw_happening.endOperation hs e .aborted none) ho
    have hwithout : (s.endOperation e .aborted none).operations = (s.downstream.without e.arrival).operations :=
      congrArg Downstream.operations (endOperation_downstream hs e .aborted none)
    rw [hwithout] at hmem
    obtain ⟨hmem, hne⟩ := List.mem_filter.mp hmem
    exact ⟨hmem, List.forall_mem_cons.mpr ⟨by simpa using hne, hes⟩⟩

/-- f for an entry and its line; nothing for an entry without one. -/
def State.onLine (f : State → Entry → Line → State) (s : State) (e : Entry) : State :=
  match e.line with
  | none => s
  | some l => f s e l

/-- Steps 1 and 2 of a link abort change records of reservations and faults alone (R129). -/
theorem foldl_onLine_downstream {f : State → Entry → Line → State} (hsame : ∀ s e l, SameTable s (f s e l))
    (hdown : ∀ s e l, (f s e l).downstream = s.downstream) (es : List Entry) {s : State} (hs : ArrivalLaw s) :
    ArrivalLaw (es.foldl (State.onLine f) s) ∧ (es.foldl (State.onLine f) s).downstream = s.downstream :=
  List.foldlRecOn (motive := fun t => ArrivalLaw t ∧ t.downstream = s.downstream) es _ ⟨hs, rfl⟩
      fun t ⟨ha, ht⟩ e _ => by
    unfold State.onLine
    split
    · exact ⟨ha, ht⟩
    · exact ⟨arrivalLaw_happening.same ha (hsame t e _), (hdown t e _).trans ht⟩

/-- A link abort ends every operation that was outstanding (R129). -/
theorem linkAbort_moves {s : State} (hs : ArrivalLaw s) : s.Moves s.linkAbort := by
  have hreserve := foldl_onLine_downstream endReserve_same State.endReserve_downstream
    (s.entries.filter Entry.isOutstanding) hs
  have hfault := foldl_onLine_downstream (fun t e l => faultWrite_same t e l .writeAborted)
    (fun t e l => t.faultWrite_downstream e l .writeAborted) (s.entries.filter Entry.isOutstanding) hreserve.1
  have hnone : s.linkAbort.operations = [] := by
    refine List.eq_nil_iff_forall_not_mem.mpr fun o ho => ?_
    obtain ⟨hmem, hleft⟩ := endOperations_left _ hfault.1 ho
    have hmem : o ∈ s.downstream.operations := (hfault.2.trans hreserve.2) ▸ hmem
    obtain ⟨e, he, hop⟩ := List.mem_filterMap.mp hmem
    refine hleft e (List.mem_filter.mpr ⟨he, ?_⟩) ((e.operation_eq_some_iff o).mp hop).2.1.symm
    rw [e.isOutstanding_eq, hop]; rfl
  have hclear : s.linkAbort.downstream =
      ⟨s.linkAbort.config, [], Vector.replicate 12 .free, Vector.replicate 32 .idle, .down⟩ := by
    rw [← hnone]; rfl
  rw [State.Moves, hclear]
  exact .clears _ _

theorem signalDown_moves {s : State} (hs : ArrivalLaw s) : s.Moves s.signalDown := by
  unfold State.signalDown
  split
  · exact linkAbort_moves hs
  · exact .of_eq rfl

theorem expireRecovery_moves (s : State) (b : BankNo) : s.Moves (s.expireRecovery b) := by
  unfold State.expireRecovery
  split
  next i hi => exact .recovers b i hi
  next => exact .of_eq rfl
  next => exact .of_eq rfl

theorem writeConfiguration_moves (s : State) (w : ConfigWord) (v : Word) : s.Moves (s.writeConfiguration w v) := by
  unfold State.writeConfiguration
  split
  · rename_i htakes
    split
    · exact .reconfigures _ htakes
    · exact .of_eq rfl
  · exact .of_eq rfl

/-! ## Every step -/

theorem commandPortReset_downstream {s : State} (hs : ArrivalLaw s) (args : CommandArguments) :
    (s.commandPortReset args).1.downstream = s.downstream := by
  unfold State.commandPortReset
  cases namedPort args with
  | some p => dsimp only; exact resetPort_downstream hs p
  | none => rfl

/-- What a command does to the outstanding operations. -/
theorem exec_moves {s t : State} {c : Instr} (ha : ArrivalLaw s) (hk : KindLaw s) (ht : TagLaw s)
    (h : exec c s = .next t) : s.Moves t := by
  have hstays : s.Moves s := .of_eq rfl
  cases c with
  | porNAsserted => cases h; exact .clears Configuration.powerOn .down
  | porNDeasserted => cases h; exact .of_eq s.releasePower_downstream
  | prstNAsserted p => exact keeps_unlessHeld h hstays (.of_eq (resetPort_downstream ha p))
  | request p m =>
    have hpresent : ArrivalLaw (s.present p m) := ha
    exact keeps_unlessHeld (P := s.Moves) h (.of_eq rfl) (.of_eq (takeFromWires_downstream hpresent p))
  | delivery p => exact keeps_unlessHeld h hstays (.of_eq (deliver_downstream ha p))
  | dispatch => exact keeps_unlessHeld h hstays (dispatch_moves ha)
  | completion m => exact keeps_unlessHeld h hstays (complete_moves ha hk ht m)
  | completionTimeout k => exact keeps_unlessHeld h hstays (timeOut_moves ha hk ht k)
  | linkUp => exact keeps_unlessHeld h hstays .comesUp
  | linkDown => exact keeps_unlessHeld h hstays (signalDown_moves ha)
  | reservationExpiry k => exact keeps_unlessHeld h hstays (.of_eq (s.expireReservation_downstream k))
  | guardExpiry g => exact keeps_unlessHeld h hstays (.of_eq (expireGuard_downstream ha g))
  | bankRecoveryExpiry b => exact keeps_unlessHeld h hstays (expireRecovery_moves s b)
  | goOnline args => exact keeps_unlessHeld h hstays ((State.Moves.of_eq s.goOnline_downstream).endCommand _ _)
  | drain args => exact keeps_unlessHeld h hstays ((State.Moves.of_eq s.drain_downstream).endCommand _ _)
  | fullReset args => exact keeps_unlessHeld h hstays (.clears s.config .down)
  | portReset args =>
    exact keeps_unlessHeld h hstays ((State.Moves.of_eq (commandPortReset_downstream ha args)).endCommand _ _)
  | linkReset args =>
    have hsent : ArrivalLaw (s.send .linkReset) := ha
    exact keeps_unlessHeld h hstays (State.Moves.endCommand (signalDown_moves hsent) _ _)
  | clearFault args => exact keeps_unlessHeld h hstays ((State.Moves.of_eq (s.clearFault_downstream _)).endCommand _ _)
  | clearAllFaults args => exact keeps_unlessHeld h hstays (.of_eq rfl)
  | unknownCommand code args =>
    simp only [exec, execUnknownCommand] at h
    split at h
    · exact keeps_unlessHeld h hstays (.of_eq rfl)
    · cases h
  | configurationWrite w v => exact keeps_unlessHeld h hstays (writeConfiguration_moves s w v)
  | noticeMaskWrite v => exact keeps_unlessHeld h hstays (.of_eq rfl)
  | readOutSelectorWrite v => exact keeps_unlessHeld h hstays (.of_eq (s.writeSelector_downstream v))
  | noticeHeadRead n => exact keeps_unlessHeld h hstays (.of_eq (s.readFrame_downstream 16 n))
  | noticeStatusRead n => exact keeps_unlessHeld h hstays (.of_eq (s.readFrame_downstream 18 n))
  | registerWrite w v => exact keeps_unlessHeld h hstays (.of_eq (s.writeOther_downstream w v))
  | badAddress op address =>
    simp only [exec, execBadAddress] at h
    split at h
    · exact keeps_unlessHeld h hstays (.of_eq rfl)
    · cases h

theorem idle_downstream {s : State} (hs : ArrivalLaw s) : s.idle.downstream = s.downstream := by
  refine keeps_unlessHeld (P := fun t => t.downstream = s.downstream) rfl rfl ?_
  split
  · exact takeFromWires_downstream hs _
  · rfl

/-- What a step does to the outstanding operations: that of a command, of a frame, or of a part that no command waits
for. -/
theorem step_moves {s t : State} (ha : ArrivalLaw s) (hk : KindLaw s) (ht : TagLaw s) (h : step s = .next t) :
    s.Moves t := by
  unfold step at h
  split at h
  · rename_i c rest _
    have hrest : State.Moves { s with pending := rest } t := exec_moves ha hk ht h
    exact hrest
  · rcases s.nextFrame_cases with ⟨f, rest, -, -, hf⟩ | ⟨-, hf⟩
    · rw [hf] at h
      cases hd : decodeFrame f with
      | command c =>
        rw [hd] at h
        have hrest : State.Moves { s with frames := rest } t := exec_moves ha hk ht h
        exact hrest
      | quiet q => rw [hd] at h; cases h; exact .of_eq (State.quietFrame_downstream _ q)
    · rw [hf] at h; cases h; exact .of_eq (idle_downstream ha)

theorem kindLaw_happening :
    HappeningLaw (fun s => ArrivalLaw s ∧ KindLaw s) (fun s => ArrivalLaw s ∧ KindLaw s) :=
  have follows : ∀ {limit : Nat} {s t : State}, TableFollows limit s t → ArrivalLaw s ∧ KindLaw s →
      ArrivalLaw t ∧ KindLaw t := fun h hs => ⟨hs.1.of_moves h.requests, hs.2.of_moves h.moves⟩
  { within := id
    follows := follows
    enters := fun hm hs => ⟨hs.1.enter _ _, hs.2.enter hm⟩
    binds := fun l k he hs => follows (bind_follows hs.1 he l k) hs
    settles := settle_keeps _ (fun u hu => follows (releaseCauses_follows 0 u) hu)
      (fun u e he _ ⟨ha, hk⟩ => ⟨ha.examine e, examine_kindLaw ha he hk⟩) _
    same := fun hs h => follows (limit := 0) (.of_same h) hs
    places := fun _ _ hs => follows (placeEntry_follows 0 _ _) hs
    empty := fun h => by simp [ArrivalLaw, KindLaw, h]
    stores := fun _ _ hs => hs }

/-- Settles O59: what a step can do to the outstanding operations takes a bank to BUSY with the operation that a dispatch
binds to it, and from BUSY with the operation's end; a configuration write, which could move an operation to another bank,
finds none. -/
theorem stepKeepsBankLaw : Obligations.StepKeepsBankLaw := by
  rintro s t ⟨ha, hk, hf, ht, hl, hb⟩ hst
  obtain ⟨ha', hk'⟩ := kindLaw_happening.everyStepKeeps s t ⟨ha, hk⟩ hst
  have hf' := tableLaw_happening.everyStepKeeps s t hf hst
  have hmoves := step_moves ha hk ht hst
  have hstop : s.takesConfiguration = true → s.downstream.operations = [] := fun h => by
    simp [State.downstream, State.operations, hf.entries_eq_nil h]
  have htags := (tagLaw_iff s).mp ht
  exact ⟨ha', hk', hf', (tagLaw_iff t).mpr (hmoves.tagsBound ha.distinct htags),
    (linkLaw_iff t).mpr (hmoves.freeWhileDown htags hl),
    (bankLaw_iff t).mpr (hmoves.banksBound hstop ha.distinct htags ((bankLaw_iff s).mp hb))⟩

end Sys2Proof.Machine
end

/-! # Dispatch scheduling (06_dispatch_scheduling.md) -/

section
namespace Sys2Proof.Machine

open Sys2Proof

/-! ## Candidates, and the tag a dispatch takes (R101, R102, R107) -/

theorem State.isCandidate_iff (s : State) (e : Entry) :
    s.isCandidate e = true ↔ e.state = .ready ∧ ∃ b, s.bankOfEntry e = some b ∧ s.banks[b] = .idle := by
  unfold State.isCandidate
  split <;> simp_all

theorem State.candidates_eq_nil_iff (s : State) :
    s.candidates = [] ↔
      ∀ e ∈ s.entries, ∀ b : BankNo, e.state = .ready → s.bankOfEntry e = some b → s.banks[b] ≠ .idle := by
  simp only [State.candidates, List.filter_eq_nil_iff, State.isCandidate_iff, not_and, not_exists]
  exact forall₂_congr fun e _ => ⟨fun h b hr hb => h hr b hb, fun h hr b hb => h b hr hb⟩

theorem State.isOverdue_iff (s : State) (e : Entry) : s.isOverdue e = true ↔ e.bypass = s.config.bypassLimit :=
  beq_iff_eq

theorem State.mayDispatch_iff (s : State) :
    s.mayDispatch = true ↔ (s.partState = .online ∨ s.partState = .draining) ∧ s.link = .up := by
  simp [State.mayDispatch]

theorem allTags_eq_finRange : allTags = List.finRange 12 := rfl

theorem State.freeTag_eq_none_iff (s : State) : s.freeTag = none ↔ ∀ t : Tag, s.tags[t] ≠ .free := by
  simp [State.freeTag, allTags_eq_finRange]

/-- The FREE tag that is found is the lowest-numbered one (R107). -/
theorem State.freeTag_of_lowest {s : State} {t : Tag} (ht : s.tags[t] = .free)
    (hlow : ∀ k : Tag, k < t → s.tags[k] ≠ .free) : s.freeTag = some t := by
  rw [State.freeTag, allTags_eq_finRange, List.find?_eq_some_iff_getElem]
  refine ⟨by simpa using ht, t.val, by simp, by simp, fun j hj => ?_⟩
  simpa using hlow ⟨j, hj.trans t.isLt⟩ hj

/-! ## The choice (R103) -/

/-- The first candidate found is the oldest that answers to q. -/
theorem ArrivalLaw.candidates_find?_le {s : State} (hs : ArrivalLaw s) {q : Entry → Bool} {e x : Entry}
    (he : s.candidates.find? q = some e) (hx : x ∈ s.candidates) (hqx : q x = true) : e.arrival ≤ x.arrival := by
  rw [State.candidates, List.find?_filter] at he
  obtain ⟨hmem, hcand⟩ := List.mem_filter.mp hx
  exact hs.find?_le he hmem (by simp [hcand, hqx])

/-- The two steps of the choice: an overdue candidate, or, with none, one of the first port in the grant order list that
has a candidate. -/
theorem choice_cases {s : State} {e : Entry} (h : s.choice = some e) :
    s.candidates.find? s.isOverdue = some e ∨
    (∀ x ∈ s.candidates, ¬ s.isOverdue x = true) ∧
      s.candidates.find? (fun x => x.port == e.port) = some e ∧
      ∃ before after, s.grantOrder = before ++ e.port :: after ∧ ∀ q ∈ before, ∀ x ∈ s.candidates, x.port ≠ q := by
  unfold State.choice at h
  split at h
  · cases h; exact .inl ‹_›
  · rename_i hnone
    obtain ⟨before, p, after, hsplit, hfound, hbefore⟩ := List.findSome?_eq_some_iff.mp h
    obtain rfl : e.port = p := by simpa using List.find?_some hfound
    exact .inr ⟨List.find?_eq_none.mp hnone, hfound, before, after, hsplit, fun q hq x hx => by
      simpa using List.find?_eq_none.mp (hbefore q hq) x hx⟩

theorem choice_eq_none_of_candidates_nil {s : State} (h : s.candidates = []) : s.choice = none :=
  Option.eq_none_iff_forall_ne_some.mpr fun e he => by simpa [h] using choice_mem he

theorem GrantLaw.mem {s : State} (hs : GrantLaw s) (p : Port) : p ∈ s.grantOrder :=
  hs.mem_iff.mpr (by revert p; decide)

theorem GrantLaw.nodup {s : State} (hs : GrantLaw s) : s.grantOrder.Nodup :=
  hs.nodup_iff.mpr (by decide)

/-- Every candidate's port has a place in the grant order list, so the choice misses none. -/
theorem GrantLaw.choice_eq_none_iff {s : State} (hs : GrantLaw s) : s.choice = none ↔ s.candidates = [] := by
  constructor
  · intro h
    unfold State.choice at h
    split at h
    · cases h
    · refine List.eq_nil_iff_forall_not_mem.mpr fun x hx => ?_
      have hnone := List.findSome?_eq_none_iff.mp h x.port (hs.mem x.port)
      exact List.find?_eq_none.mp hnone x hx (beq_self_eq_true x.port)
  · exact choice_eq_none_of_candidates_nil

/-- Settles O22: by the two steps of the choice, each of which finds the oldest, as the candidates stand in arrival
order. -/
theorem choiceIsOldestOverdueElseByGrantOrder : Obligations.ChoiceIsOldestOverdueElseByGrantOrder := by
  refine fun s ha hg => ⟨hg.choice_eq_none_iff, fun e he => ⟨choice_mem he, ?_⟩⟩
  simp only [← s.isOverdue_iff, ne_eq]
  rcases choice_cases he with hfound | ⟨hnone, hfound, hfirst⟩
  · have hover := List.find?_some hfound
    exact ⟨fun _ => ⟨hover, fun x hx hxo => ha.candidates_find?_le hfound hx hxo⟩,
      fun hnone => absurd hover (hnone e (choice_mem he))⟩
  · exact ⟨fun ⟨x, hx, hxo⟩ => absurd hxo (hnone x hx),
      fun _ => ⟨fun x hx hxp => ha.candidates_find?_le hfound hx (beq_iff_eq.mpr hxp), hfirst⟩⟩

/-! ## When a dispatch happens (R102) -/

theorem exec_dispatch {s : State} (hpor : s.porAsserted = false) : exec .dispatch s = .next s.dispatch := by
  have hexec : exec .dispatch s = .next (s.unlessHeld State.dispatch) := rfl
  simp [hexec, State.unlessHeld, hpor]

theorem dispatch_of_choice {s : State} {e : Entry} {l : Line} {t : Tag} (hmay : s.mayDispatch = true)
    (ht : s.freeTag = some t) (he : s.choice = some e) (hl : e.line = some l) : s.dispatch = s.dispatchEntry e l t := by
  simp [State.dispatch, hmay, ht, he, hl]

/-- Without the part state, the link, a FREE tag or a chosen entry there is no dispatch. -/
theorem dispatch_eq_self {s : State} (h : s.mayDispatch = false ∨ s.freeTag = none ∨ s.choice = none) :
    s.dispatch = s := by
  unfold State.dispatch
  split
  · split
    · simp_all
    all_goals rfl
  · rfl

/-- Settles O23: a part state or a link that forbids dispatches, no FREE tag, or no candidate and so no choice. -/
theorem noDispatchWithoutTheFourConditions : Obligations.NoDispatchWithoutTheFourConditions := by
  intro s hpor hfail
  rw [exec_dispatch hpor, dispatch_eq_self]
  rcases hfail with hpart | hlink | htags | hbanks
  · exact .inl (by simp [State.mayDispatch, hpart])
  · exact .inl (by simp [State.mayDispatch, hlink])
  · exact .inr (.inl (s.freeTag_eq_none_iff.mpr htags))
  · exact .inr (.inr (choice_eq_none_of_candidates_nil (s.candidates_eq_nil_iff.mpr hbanks)))

/-! ## The effects of a dispatch (R104 to R109) -/

theorem isWrite_iff (k : RequestKind) : isWrite k = true ↔ k = .write ∨ k = .writeConditional := by
  cases k <;> decide

/-- The message in terms of the kind: a read or a write, the mask of a WRITE, the data of both writes (R108). -/
theorem dispatchMessage_eq (e : Entry) (l : Line) (t : Tag) :
    dispatchMessage e l t =
      .dispatch t (if e.kind = .write ∨ e.kind = .writeConditional then .write else .read) l
        (if e.kind = .write then e.mask else none)
        (if e.kind = .write ∨ e.kind = .writeConditional then e.data else none) := by
  simp only [dispatchMessage, operationOf, isWrite_iff]

/-- The entries after a dispatch: the chosen one is ISSUED, and the older candidates on its bank are passed by (R106). -/
theorem bind_entries (s : State) (e : Entry) (l : Line) (t : Tag) :
    (s.bind e l t).entries = s.entries.map fun x =>
      if x.arrival = e.arrival then { x with state := .issued t }
      else if x ∈ s.candidates ∧ s.bankOfEntry x = s.bankOfEntry e ∧ x.arrival < e.arrival then
        { x with bypass := if x.bypass < s.config.bypassLimit then x.bypass + 1 else x.bypass }
      else x := by
  refine List.map_congr_left fun x hx => ?_
  simp only [State.raiseBypass, raisedBypass, State.candidates, List.mem_filter, hx, true_and]

/-- The reservation effect of a dispatch touches the reservation records alone. -/
theorem dispatchReservation_frame (s : State) (e : Entry) (l : Line) :
    s.dispatchReservation e l = { s with reservations := (s.dispatchReservation e l).reservations } := by
  unfold State.dispatchReservation; split <;> rfl

/-- A READ_RESERVE reserves for its own holder, a WRITE or WRITE_CONDITIONAL breaks the records of the others, and the
other kinds leave every record (R28, R31, R109). -/
theorem dispatchReservation_get (s : State) (e : Entry) (l : Line) (k : Holder) :
    (s.dispatchReservation e l).reservations[k] =
      if e.kind = .readReserve ∧ k = holderOf e.port e.context then
        { s.reservations[k] with state := .live l s.config.reservationLifetime }
      else if (e.kind = .write ∨ e.kind = .writeConditional) ∧ k ≠ holderOf e.port e.context then
        (s.reservations[k]).break l .conflict
      else s.reservations[k] := by
  unfold State.dispatchReservation
  split
  case h_1 h | h_5 h => simp [h]
  case h_2 h =>
    rw [State.reserve_get]
    by_cases hk : holderOf e.port e.context = k
    · subst hk; simp [h]
    · simp [h, hk, Ne.symm hk]
  case h_3 h | h_4 h =>
    rw [State.breakForConflict_get]
    by_cases hk : k = holderOf e.port e.context <;> simp [h, hk]

/-- Settles O24: the binding of the entry and its effect on the reservations, field by field, with the checks to follow. -/
theorem dispatchBindsTheChosenEntry : Obligations.DispatchBindsTheChosenEntry := by
  intro s e l t hpor hpart hlink hfree hlow he hl
  have hdispatch := dispatch_of_choice (s.mayDispatch_iff.mpr ⟨hpart, hlink⟩) (State.freeTag_of_lowest hfree hlow) he hl
  have hframe := dispatchReservation_frame (s.bind e l t) e l
  refine ⟨(s.bind e l t).dispatchReservation e l, ?_, ?_, ?_, ?_, ?_, ?_, fun k => ?_, ?_⟩
  · rw [exec_dispatch hpor, hdispatch, State.dispatchEntry]
  · rw [hframe]; rfl
  · rw [hframe]; rfl
  · rw [hframe]; rfl
  · rw [hframe, ← dispatchMessage_eq]; rfl
  · rw [hframe, ← bind_entries]
  · exact dispatchReservation_get (s.bind e l t) e l k
  · rw [hframe]; rfl

/-! ## The grant order after a dispatch (R105) -/

/-- A port that stands once in the list leaves its place for the tail, and the others keep their order. -/
theorem moveToTail_of_nodup {p : Port} {before after : List Port} (h : (before ++ p :: after).Nodup) :
    moveToTail p (before ++ p :: after) = before ++ after ++ [p] := by
  have hnotin : p ∉ before ++ after := (List.nodup_middle.mp h).notMem
  have hstay : (before ++ after).filter (fun q => q != p) = before ++ after :=
    List.filter_eq_self.mpr fun q hq => bne_iff_ne.mpr fun hqp => hnotin (hqp ▸ hq)
  rw [List.filter_append] at hstay
  simp [moveToTail, List.filter_append, hstay]

theorem dispatchEntry_grantOrder (s : State) (e : Entry) (l : Line) (t : Tag) :
    (s.dispatchEntry e l t).grantOrder = moveToTail e.port s.grantOrder := by
  rw [State.dispatchEntry, State.settle_grantOrder, dispatchReservation_frame]; rfl

/-- Settles O25: the chosen entry's port moves to the tail, whichever step of the choice found it; the manual's two lists
follow by computing the move. -/
theorem dispatchMovesThePortToTheTail : Obligations.DispatchMovesThePortToTheTail := by
  intro s e l before after hpor hpart hlink hfree he hl hg hsplit
  obtain ⟨t, ht⟩ : ∃ t, s.freeTag = some t := Option.ne_none_iff_exists'.mp fun hnone =>
    hfree.elim fun k hk => s.freeTag_eq_none_iff.mp hnone k hk
  have hdispatch := dispatch_of_choice (s.mayDispatch_iff.mpr ⟨hpart, hlink⟩) ht he hl
  have horder := dispatchEntry_grantOrder s e l t
  have hmoved : moveToTail e.port s.grantOrder = before ++ after ++ [e.port] := by
    rw [hsplit]; exact moveToTail_of_nodup (hsplit ▸ hg.nodup)
  refine ⟨s.dispatchEntry e l t, by rw [exec_dispatch hpor, hdispatch], horder.trans hmoved, ?_, ?_, ?_⟩
  · rintro rfl
    rw [horder, hmoved, hsplit, List.append_nil]
  · intro hlist hport
    rw [horder, hlist, hport]; decide
  · intro hlist hport
    rw [horder, hlist, hport]; decide

end Sys2Proof.Machine
end

/-! # The downstream link (07_the_downstream_link.md) -/

section
namespace Sys2Proof.Machine

open Sys2Proof

/-! ## BUSY tags and outstanding entries (R116, R117) -/

/-- Settles O58: each thing a step can do to the outstanding operations binds a tag with an operation or frees it with the
operation's end, and none of them binds a tag while the link is DOWN. -/
theorem stepKeepsTagLaw : Obligations.StepKeepsTagLaw := by
  rintro s t ⟨ha, hk, ht, hl⟩ hst
  obtain ⟨ha', hk'⟩ := kindLaw_happening.everyStepKeeps s t ⟨ha, hk⟩ hst
  have hmoves := step_moves ha hk ht hst
  have htags := (tagLaw_iff s).mp ht
  exact ⟨ha', hk', (tagLaw_iff t).mpr (hmoves.tagsBound ha.distinct htags),
    (linkLaw_iff t).mpr (hmoves.freeWhileDown htags hl)⟩

/-! ## The commands of the downstream link while POR_n is not asserted (R119, R124, R130) -/

section Released

variable {s : State} (hpor : s.porAsserted = false)

include hpor

theorem exec_completion (m : Completion) : exec (.completion m) s = .next (s.complete m) :=
  congrArg Host.Outcome.next (State.unlessHeld_of_released hpor _)

theorem exec_completionTimeout (t : Tag) : exec (.completionTimeout t) s = .next (s.timeOut t) :=
  congrArg Host.Outcome.next (State.unlessHeld_of_released hpor _)

theorem exec_linkUp : exec .linkUp s = .next { s with link := .up } :=
  congrArg Host.Outcome.next (State.unlessHeld_of_released hpor _)

theorem exec_linkDown : exec .linkDown s = .next s.signalDown :=
  congrArg Host.Outcome.next (State.unlessHeld_of_released hpor _)

theorem exec_linkReset (args : CommandArguments) :
    exec (.linkReset args) s = .next ((s.send .linkReset).signalDown.endCommand 5 .done) :=
  congrArg Host.Outcome.next (State.unlessHeld_of_released hpor _)

end Released

theorem signalDown_of_down {s : State} (h : s.link = .down) : s.signalDown = s := by
  simp [State.signalDown, h]

theorem signalDown_of_up {s : State} (h : s.link = .up) : s.signalDown = s.linkAbort := by
  simp [State.signalDown, h]

/-- Settles O31: LINK_UP has one effect, and a link that is DOWN has nothing to abort. -/
theorem linkSignalsWithoutAnAbort : Obligations.LinkSignalsWithoutAnAbort := by
  intro s args hpor
  refine ⟨exec_linkUp hpor, fun hdown => ⟨?_, ?_⟩⟩
  · rw [exec_linkDown hpor, signalDown_of_down hdown]
  · have hsent : (s.send .linkReset).link = .down := hdown
    rw [exec_linkReset hpor, signalDown_of_down hsent, State.endCommand_eq]
    rfl

/-! ## Completions and timeouts by the state of the tag (R119, R123 to R127) -/

/-- A completion whose number names tag t. -/
theorem complete_of_tag {s : State} {m : Completion} {t : Tag} (h : m.tag = t.val) : s.complete m = s.completeTag t m := by
  have hlt : m.tag < 12 := h ▸ t.isLt
  obtain rfl : t = ⟨m.tag, hlt⟩ := Fin.ext h.symm
  exact dif_pos hlt

theorem complete_of_no_tag {s : State} {m : Completion} (h : 12 ≤ m.tag) :
    s.complete m = s.post .strayCompletion none (.tag m.tag) := dif_neg (Nat.not_lt.mpr h)

theorem completeTag_of_free {s : State} {t : Tag} (h : s.tags[t] = .free) (m : Completion) :
    s.completeTag t m = s.post .strayCompletion none (.tag m.tag) := by
  simp only [State.completeTag, h]

theorem completeTag_of_quarantined {s : State} {t : Tag} {op : LinkOperation} {l : Line} {p : Port}
    (h : s.tags[t] = .quarantined op l p) (m : Completion) :
    s.completeTag t m = (s.setTag t .free).post .lateCompletion none (.tag m.tag) := by
  simp only [State.completeTag, h]

/-- The completion of a BUSY tag finds the bound entry by its place in the arrival order. -/
theorem completeTag_of_busy {s : State} (ha : ArrivalLaw s) {t : Tag} {e : Entry} {l : Line} {i : Nat}
    (h : s.tags[t] = .busy e.arrival i) (he : e ∈ s.entries) (hl : e.line = some l) (m : Completion) :
    s.completeTag t m = s.completeEntry t e l m := by
  simp only [State.completeTag, h, ha.entryAt he, hl]

theorem timeOut_of_busy {s : State} (ha : ArrivalLaw s) {t : Tag} {e : Entry} {l : Line} {i : Nat}
    (h : s.tags[t] = .busy e.arrival i) (he : e ∈ s.entries) (hl : e.line = some l) :
    s.timeOut t = s.timeOutEntry t e l := by
  simp only [State.timeOut, h, ha.entryAt he, hl]

theorem timeOut_of_not_busy {s : State} {t : Tag} (h : ∀ n i, s.tags[t] ≠ .busy n i) : s.timeOut t = s := by
  unfold State.timeOut
  split
  next => rfl
  next => rfl
  next n i hb => exact (h n i hb).elim

/-- Settles O28, by the state of the tag that the completion names, if it names one. -/
theorem lateAndStrayCompletionsAreDiscarded : Obligations.LateAndStrayCompletionsAreDiscarded := by
  intro s m hpor
  rw [exec_completion hpor]
  refine ⟨fun t op l p htag hq => ?_, ?_⟩
  · rw [complete_of_tag htag, completeTag_of_quarantined hq]
    rfl
  · rintro (⟨t, htag, hfree⟩ | hhigh)
    · rw [complete_of_tag htag, completeTag_of_free hfree]
      rfl
    · rw [complete_of_no_tag hhigh]
      rfl

/-! ## The end of the bound operation (R120, R121, R124) -/

theorem isRead_iff (k : RequestKind) : isRead k = true ↔ k = .read ∨ k = .readReserve := by
  cases k <;> decide

theorem Entry.isFullLineWrite_iff (e : Entry) :
    e.isFullLineWrite = true ↔ (e.kind = .write ∧ e.mask = none) ∨ e.kind = .writeConditional := by
  simp [Entry.isFullLineWrite]

/-- An outcome counts as DATA_ERROR if it is one, or for a read without data (R121). -/
theorem effectiveOutcome_eq_dataError_iff (e : Entry) (m : Completion) :
    effectiveOutcome e m = .dataError ↔ m.outcome = .dataError ∨ (isRead e.kind = true ∧ m.data = none) := by
  unfold effectiveOutcome
  split
  · rename_i h; simp [h]
  · rename_i h; simp [h]

theorem effectiveOutcome_of_not_failed {e : Entry} {m : Completion}
    (h : ¬ (m.outcome = .dataError ∨ (isRead e.kind = true ∧ m.data = none))) : effectiveOutcome e m = m.outcome :=
  if_neg fun hr => h (.inr hr)

theorem completionStatus_eq (k : RequestKind) (o : CompletionOutcome) :
    completionStatus k o =
      if o = .dataError then .poisoned else if isRead k ∧ o = .doneCorrected then .okCorrected else .ok := by
  cases o <;> simp [completionStatus]

/-- The tag and the bank of the operation are given back, before the reservation and the fault list see its end (R120). -/
def State.giveBack (s : State) (t : Tag) (r : TagRecord) (l : Line) : State := (s.setTag t r).endBank l

theorem State.giveBack_eq (s : State) (t : Tag) (r : TagRecord) (l : Line) :
    s.giveBack t r l =
      { s with
        tags := s.tags.set t r
        banks := s.banks.set (bankOf s.config l)
          (if s.config.recoveryInterval = 0 then .idle else .recovering s.config.recoveryInterval) } := rfl

/-- The end of a READ_RESERVE that fails breaks its holder's record; another kind has none (R30). -/
theorem State.endReserve_eq (s : State) (e : Entry) (l : Line) :
    s.endReserve e l =
      { s with
        reservations :=
          if e.kind = .readReserve then
            s.reservations.set (holderOf e.port e.context)
              ((s.reservations[holderOf e.port e.context]).break l .readFailed)
          else s.reservations } := by
  unfold State.endReserve
  split <;> rfl

/-- The reservation and fault-list effects of a completion that did not fail (R70 to R73, R79). -/
theorem completeFault_of_ok {s : State} {e : Entry} {l : Line} {o : CompletionOutcome} (ho : o ≠ .dataError) :
    s.completeFault e l o =
      { s with
        faults := if e.isFullLineWrite then s.faults.filter (fun f => f.line != l) else s.faults
        notices :=
          if isRead e.kind ∧ o = .doneCorrected then s.notices.post .correctedData (some e.port) (.line l)
          else s.notices } := by
  have hread : isRead e.kind = true → e.isFullLineWrite = false := by
    intro hr
    rw [Bool.eq_false_iff, ne_eq, e.isFullLineWrite_iff]
    rcases (isRead_iff e.kind).mp hr with hk | hk <;> simp [hk]
  cases o with
  | dataError => exact (ho rfl).elim
  | done =>
    simp only [State.completeFault, reduceCtorEq, and_false, if_false]
    split <;> rfl
  | doneCorrected =>
    simp only [State.completeFault, and_true]
    split
    · rename_i hr
      rw [if_neg (Bool.eq_false_iff.mp (hread hr))]
      rfl
    · split <;> rfl

/-- The state that a completion of entry e leaves before the end is handed to the table: steps 1 to 4 of R120. -/
def State.completed (s : State) (t : Tag) (e : Entry) (l : Line) (m : Completion) : State :=
  ((s.giveBack t .free l).completeReserve e l (effectiveOutcome e m)).completeFault e l (effectiveOutcome e m)

theorem completeEntry_eq (s : State) (t : Tag) (e : Entry) (l : Line) (m : Completion) :
    s.completeEntry t e l m =
      (s.completed t e l m).endOperation e (completionStatus e.kind (effectiveOutcome e m)) (completionData e m) := rfl

theorem completed_of_failed {s : State} {t : Tag} {e : Entry} {l : Line} {m : Completion}
    (h : effectiveOutcome e m = .dataError) :
    s.completed t e l m =
      ((s.giveBack t .free l).endReserve e l).recordFault l (if isRead e.kind then .readError else .writeError) e.port := by
  simp only [State.completed, h]
  rfl

theorem completed_of_ok {s : State} {t : Tag} {e : Entry} {l : Line} {m : Completion}
    (h : effectiveOutcome e m ≠ .dataError) :
    s.completed t e l m = (s.giveBack t .free l).completeFault e l (effectiveOutcome e m) := by
  simp only [State.completed, State.completeReserve, if_neg h]

/-- Failed or not, the tag and the bank are given back, and of the rest only the reservations, the fault list and the
notices can change. -/
theorem completed_frame (s : State) (t : Tag) (e : Entry) (l : Line) (m : Completion) :
    s.completed t e l m =
      { s.giveBack t .free l with
        reservations := (s.completed t e l m).reservations
        faults := (s.completed t e l m).faults
        notices := (s.completed t e l m).notices } := by
  by_cases h : effectiveOutcome e m = .dataError
  · rw [completed_of_failed h, State.recordFault_frame, State.endReserve_eq]
  · rw [completed_of_ok h, completeFault_of_ok h]

theorem completed_tags (s : State) (t : Tag) (e : Entry) (l : Line) (m : Completion) :
    (s.completed t e l m).tags = s.tags.set t .free :=
  congrArg State.tags (completed_frame s t e l m)

theorem completed_banks (s : State) (t : Tag) (e : Entry) (l : Line) (m : Completion) :
    (s.completed t e l m).banks = s.banks.set (bankOf s.config l)
      (if s.config.recoveryInterval = 0 then .idle else .recovering s.config.recoveryInterval) :=
  congrArg State.banks (completed_frame s t e l m)

/-- Settles O26, by whether the completion counts as DATA_ERROR: the fault list records it after the reservation table has
acted, and otherwise the reservations stay. -/
theorem completionEndsTheBoundOperation : Obligations.CompletionEndsTheBoundOperation := by
  intro s t m e l i hpor ha htag hbusy he hl _ read fullLine h failed
  have hfailed : effectiveOutcome e m = .dataError ↔ failed := by
    rw [effectiveOutcome_eq_dataError_iff, isRead_iff]
  have hcomplete : s.complete m = s.completeEntry t e l m :=
    (complete_of_tag htag).trans (completeTag_of_busy ha hbusy he hl m)
  have hout : ¬ failed → effectiveOutcome e m = m.outcome := fun hf =>
    effectiveOutcome_of_not_failed (by rw [isRead_iff]; exact hf)
  refine ⟨s.completed t e l m, ?_, completed_tags s t e l m, completed_banks s t e l m, fun hf => ?_, fun hf => ?_,
    ?_⟩
  · rw [exec_completion hpor, hcomplete, completeEntry_eq, completionStatus_eq]
    simp only [completionData, isRead_iff, hfailed, ne_eq]
    by_cases hf : failed
    · simp [hf]
    · simp [hf, hout hf, read]
  · have ho : effectiveOutcome e m ≠ .dataError := hfailed.not.mpr hf
    rw [completed_of_ok ho, completeFault_of_ok ho, hout hf, State.giveBack_eq]
    simp only [isRead_iff, Entry.isFullLineWrite_iff]
    exact ⟨trivial, rfl, rfl⟩
  · have ho := hfailed.mpr hf
    refine ⟨(s.giveBack t .free l).endReserve e l, ?_, ?_⟩
    · rw [completed_tags, completed_banks, State.endReserve_eq, State.giveBack_eq]
    · rw [completed_of_failed ho]
      simp only [isRead_iff]
      rfl
  · rw [completed_tags, completed_banks]
    exact completed_frame s t e l m

theorem operationOf_eq (k : RequestKind) :
    operationOf k = if k = .write ∨ k = .writeConditional then .write else .read := by
  simp only [operationOf, isWrite_iff]

theorem State.faultWrite_eq (s : State) (e : Entry) (l : Line) (c : FaultCause) :
    s.faultWrite e l c = if e.kind = .write ∨ e.kind = .writeConditional then s.recordFault l c e.port else s := by
  simp only [State.faultWrite, isWrite_iff]

theorem timeOutEntry_eq (s : State) (t : Tag) (e : Entry) (l : Line) :
    s.timeOutEntry t e l =
      (State.endOperation
        (((s.giveBack t (.quarantined (operationOf e.kind) l e.port) l).endReserve e l).faultWrite e l .writeTimeout)
        e .timeout none).post .completionTimeout (some e.port) (.tag t.val) := rfl

/-- Settles O29: the entry bound to the tag is found by its place in the arrival order, and a tag without one has no
timer. -/
theorem timeoutQuarantinesTheTag : Obligations.TimeoutQuarantinesTheTag := by
  refine fun s t hpor => ⟨fun hn => ?_, fun e l i ha hbusy he hl _ => ?_⟩
  · rw [exec_completionTimeout hpor, timeOut_of_not_busy hn]
  · refine (exec_completionTimeout hpor t).trans (congrArg Host.Outcome.next ?_)
    rw [timeOut_of_busy ha hbusy he hl, timeOutEntry_eq, State.endReserve_eq, State.giveBack_eq, operationOf_eq,
      State.faultWrite_eq]

end Sys2Proof.Machine
end

section
namespace Sys2Proof.Machine

open Sys2Proof

/-! ## Happenings that conclude requests (R20, R28)

Only a delivery takes a response from its queue, and only a dispatch reserves. All else that the table does is one relation,
along which the queues can only grow and the LIVE records only become fewer. -/

/-- From s to t no response leaves its queue, and no reservation record comes to be LIVE. -/
structure Concludes (s t : State) : Prop where
  responses : ∀ p : Port, s.ports[p].responses <+: t.ports[p].responses
  live : ∀ (h : Holder) (l : Line) (i : Nat), t.reservations[h].state = .live l i → s.reservations[h].state = .live l i

namespace Concludes

variable {s t u : State}

theorem of_eq (hp : t.ports = s.ports) (hr : t.reservations = s.reservations) : Concludes s t :=
  ⟨fun p => by rw [hp], fun h l i hl => by rwa [hr] at hl⟩

theorem refl (s : State) : Concludes s s := .of_eq rfl rfl

theorem trans (h : Concludes s t) (k : Concludes t u) : Concludes s u :=
  ⟨fun p => (h.responses p).trans (k.responses p), fun g l i hl => h.live g l i (k.live g l i hl)⟩

/-- A change of the reservation records alone, each of which is LIVE only as it was. -/
theorem of_reservations (hp : t.ports = s.ports)
    (hr : ∀ (h : Holder) (l : Line) (i : Nat), t.reservations[h].state = .live l i → s.reservations[h].state = .live l i) :
    Concludes s t := ⟨fun p => by rw [hp], hr⟩

theorem setReservation {h : Holder} {r : Reservation}
    (hr : ∀ l i, r.state = .live l i → s.reservations[h].state = .live l i) : Concludes s (s.setReservation h r) :=
  .of_reservations rfl fun k l i hl => by
    rw [State.setReservation_get] at hl
    split at hl
    · subst k; exact hr l i hl
    · exact hl

end Concludes

theorem ReservationState.live_of_afterFailure {r : ReservationState} {l : Line} {i : Nat}
    (h : r.afterFailure = .live l i) : r = .live l i := by
  cases r with
  | live => exact h
  | idle => cases h
  | broken => cases h

/-- A break makes no record LIVE, and leaves none LIVE on its line. -/
theorem Reservation.live_of_break {r : Reservation} {l k : Line} {why : BreakReason} {i : Nat}
    (h : (r.break l why).state = .live k i) : r.state = .live k i ∧ k ≠ l := by
  cases hlive : r.isLiveOn l with
  | true => rw [r.break_of_live l why hlive] at h; cases h
  | false =>
    rw [r.break_of_not_live l why hlive] at h
    refine ⟨h, ?_⟩
    rintro rfl
    rw [(r.isLiveOn_iff k).mpr ⟨i, h⟩] at hlive
    cases hlive

theorem placeResponse_concludes (s : State) (p : Port) (r : Response) : Concludes s (s.placeResponse p r) where
  responses q := by
    rw [State.placeResponse_get]
    split
    · subst q; exact List.prefix_append _ _
    · exact List.prefix_rfl
  live _ _ _ h := h

@[simp] theorem State.removeEntries_ports (s : State) (gone : Entry → Bool) : (s.removeEntries gone).ports = s.ports := by
  rcases s.removeEntries_cases gone with h | ⟨-, h⟩ <;> simp [h]

@[simp] theorem State.removeEntries_reservations (s : State) (gone : Entry → Bool) :
    (s.removeEntries gone).reservations = s.reservations := by
  rcases s.removeEntries_cases gone with h | ⟨-, h⟩ <;> simp [h]

theorem removeEntries_concludes (s : State) (gone : Entry → Bool) : Concludes s (s.removeEntries gone) :=
  .of_eq (by simp) (by simp)

theorem placeEntry_concludes (s : State) (e : Entry) : Concludes s (s.placeEntry e) := by
  unfold State.placeEntry
  split
  · exact (placeResponse_concludes s _ _).trans (removeEntries_concludes _ _)
  all_goals exact .refl s

theorem placeIfRoom_concludes (s : State) (n : Nat) : Concludes s (s.placeIfRoom n) := by
  unfold State.placeIfRoom
  split
  · exact .refl s
  · split
    · exact placeEntry_concludes s _
    · exact .refl s

theorem markAnswered_concludes (s : State) (n : Nat) (st : Status) (d : Option Data) :
    Concludes s (s.markAnswered n st d) := .of_eq rfl rfl

theorem answer_concludes (s : State) (n : Nat) (st : Status) (d : Option Data) : Concludes s (s.answer n st d) :=
  (markAnswered_concludes s n st d).trans (placeIfRoom_concludes _ n)

theorem releaseGuard_concludes (s : State) (g : GuardNo) : Concludes s (s.releaseGuard g) := .of_eq rfl rfl

theorem makeReady_concludes (s : State) (e : Entry) : Concludes s (s.makeReady e) := .of_eq rfl rfl

theorem releaseCauses_concludes (s : State) : Concludes s s.releaseCauses := .of_eq rfl rfl

theorem escalate_concludes (s : State) (h : Holder) (l : Line) : Concludes s (s.escalate h l) := by
  rcases s.escalate_cases h l with ⟨why, he⟩ | ⟨g, -, -, he⟩ <;> rw [he] <;> exact .of_eq rfl rfl

theorem passJudgement_concludes (s : State) (e : Entry) (l : Line) : Concludes s (s.passJudgement e l) := by
  have hconsumed : Concludes s (s.setReservation (holderOf e.port e.context) ⟨.idle, 0⟩) :=
    .setReservation fun _ _ h => by cases h
  cases hown : s.ownGuard (holderOf e.port e.context) l with
  | some g =>
    rw [passJudgement_of_owner hown]
    exact (hconsumed.trans (releaseGuard_concludes _ g)).trans (makeReady_concludes _ e)
  | none =>
    rw [passJudgement_of_no_guard hown]
    exact hconsumed.trans (makeReady_concludes _ e)

theorem failAsOwner_concludes (s : State) (e : Entry) (g : GuardNo) : Concludes s (s.failAsOwner e g) := by
  have hfailed : Concludes s (s.setReservation (holderOf e.port e.context)
      ⟨s.reservations[holderOf e.port e.context].state.afterFailure, 0⟩) :=
    .setReservation fun _ _ h => ReservationState.live_of_afterFailure h
  exact (hfailed.trans (releaseGuard_concludes _ g)).trans (answer_concludes _ _ _ _)

theorem failJudgement_concludes (s : State) (e : Entry) (l : Line) : Concludes s (s.failJudgement e l) := by
  have hfailed : Concludes s (s.failed e) :=
    (markAnswered_concludes s e.arrival .failed none).trans
      (.setReservation fun _ _ h => ReservationState.live_of_afterFailure h)
  rw [failJudgement_eq]
  split
  · exact (hfailed.trans (escalate_concludes _ _ _)).trans (placeIfRoom_concludes _ _)
  · exact hfailed.trans (placeIfRoom_concludes _ _)

theorem judge_concludes (s : State) (e : Entry) (l : Line) : Concludes s (s.judge e l) := by
  unfold State.judge
  dsimp only
  split
  · exact passJudgement_concludes s e l
  · split
    · exact failAsOwner_concludes s e _
    · exact failJudgement_concludes s e l

theorem examine_concludes (s : State) (e : Entry) : Concludes s (s.examine e) := by
  unfold State.examine
  split
  · exact answer_concludes s _ _ _
  · split
    · exact answer_concludes s _ _ _
    · split
      · exact judge_concludes s e _
      · exact makeReady_concludes s e

theorem settle_concludes (s : State) : Concludes s s.settle :=
  settle_keeps (Concludes s) (fun t h => h.trans (releaseCauses_concludes t))
    (fun t e _ _ h => h.trans (examine_concludes t e)) s (.refl s)

theorem endFencing_concludes (s : State) (p : Port) : Concludes s (s.endFencing p) where
  responses q := by
    rcases s.endFencing_cases p with ⟨-, -, h⟩ | ⟨-, h⟩ <;> rw [h]
    · simp only [State.post_ports, State.setPort_get]
      split
      · subst q; exact List.prefix_rfl
      · exact List.prefix_rfl
  live h l i hl := by rwa [State.endFencing_reservations] at hl

theorem endOperation_concludes (s : State) (e : Entry) (st : Status) (d : Option Data) :
    Concludes s (s.endOperation e st d) := by
  unfold State.endOperation
  split
  · have hleft : Concludes s (s.setEntries (s.entries.filter fun x => x.arrival != e.arrival)) := .of_eq rfl rfl
    have hfenced := (hleft.trans (settle_concludes _)).trans (endFencing_concludes _ e.port)
    dsimp only
    split
    · exact hfenced.trans (.of_eq (by simp) (by simp))
    · exact hfenced
  · exact (answer_concludes s e.arrival st d).trans (settle_concludes _)

theorem endReserve_concludes (s : State) (e : Entry) (l : Line) : Concludes s (s.endReserve e l) := by
  unfold State.endReserve
  split
  · exact .setReservation fun k i h => (Reservation.live_of_break h).1
  · exact .refl s

theorem recordFault_concludes (s : State) (l : Line) (c : FaultCause) (p : Port) : Concludes s (s.recordFault l c p) :=
  .of_reservations (by rw [s.recordFault_frame]) fun h k i hl => by
    rw [State.recordFault_get] at hl
    exact (Reservation.live_of_break hl).1

theorem faultWrite_concludes (s : State) (e : Entry) (l : Line) (c : FaultCause) : Concludes s (s.faultWrite e l c) := by
  unfold State.faultWrite
  split
  · exact recordFault_concludes s l c e.port
  · exact .refl s

end Sys2Proof.Machine
end

section
namespace Sys2Proof.Machine

open Sys2Proof

/-! ## Entries that the end of another operation leaves (R5, R18, R20) -/

/-- An entry that the move cannot change or take is still there. -/
theorem Evolves.mem_of_stays {R : Entry → Option Entry → Prop} {es fs : List Entry} (h : Evolves R es fs) {x : Entry}
    (hx : x ∈ es) (hR : ∀ o, R x o → o = some x) : x ∈ fs := by
  obtain ⟨f, rfl, hf⟩ := h
  exact List.mem_filterMap.mpr ⟨x, hx, hR _ (hf x hx)⟩

/-- Under the arrival order the checks leave every entry that is past them: ISSUED, ORPHANED or ANSWERED. -/
theorem settle_stays {s : State} (hs : ArrivalLaw s) {x : Entry} (hx : x ∈ s.entries) (hp : 3 ≤ x.phase) :
    x ∈ s.settle.entries := by
  refine (settle_keeps (fun t => ArrivalLaw t ∧ x ∈ t.entries) (fun t ⟨ha, hx⟩ => ⟨ha.releaseCauses, ?_⟩)
    (fun t e he hd ⟨ha, hx⟩ => ⟨ha.examine e, ?_⟩) s ⟨hs, hx⟩).2
  · refine (releaseCauses_moves t).entries.mem_of_stays hx fun o ho => ho.trans (congrArg some ?_)
    rcases releaseCause_cases t x with h | ⟨c, hc, -, -⟩
    · exact h
    · rw [Entry.phase_of_held hc] at hp; omega
  · have hne : x.arrival ≠ e.arrival := fun h => by
      rw [ha.unique hx he h, e.isHeld_iff_phase.mp (State.isHeld_of_isDue hd)] at hp
      omega
    refine (examine_moves t e).entries.mem_of_stays hx fun o ho => ?_
    cases ho with
    | leaves h => exact (hne h).elim
    | answered _ _ _ h => exact (hne h).elim
    | ready h => exact (hne h).elim
    | stays => rfl
    | rejoins g _ hg => rw [Entry.phase_of_deferred hg] at hp; omega

theorem AnsweredAt.eq_of_ne {n : Nat} {x : Entry} (hne : x.arrival ≠ n) {o : Option Entry} (h : AnsweredAt n x o) :
    o = some x := by
  cases h with
  | leaves hx => exact (hne hx).elim
  | answered _ _ _ hx => exact (hne hx).elim
  | stays => rfl

/-- The entries at place n of the arrival order leave the table, as an orphan does at the end of its operation (R19). -/
theorem leaveAt_moves (s : State) (n : Nat) :
    TableMoves (AnsweredAt n) s (s.setEntries (s.entries.filter fun x => x.arrival != n)) :=
  setEntries_moves (.filter _ fun x _ => by
    split
    · exact .stays (by simp_all)
    · exact .leaves (by simp_all))

/-- The end of an operation: its entry is answered or leaves, and then the checks are made. -/
theorem endOperation_entries (s : State) (e : Entry) (st : Status) (d : Option Data) :
    ∃ u, TableMoves (AnsweredAt e.arrival) s u ∧ (s.endOperation e st d).entries = u.settle.entries := by
  unfold State.endOperation
  split
  · refine ⟨_, leaveAt_moves s e.arrival, ?_⟩
    dsimp only
    split <;> simp
  · exact ⟨_, answer_moves s e.arrival st d, rfl⟩

theorem endOperation_stays {s : State} (hs : ArrivalLaw s) {x e : Entry} (hx : x ∈ s.entries) (hp : 3 ≤ x.phase)
    (hne : x.arrival ≠ e.arrival) (st : Status) (d : Option Data) : x ∈ (s.endOperation e st d).entries := by
  obtain ⟨u, hu, hend⟩ := endOperation_entries s e st d
  rw [hend]
  exact settle_stays (hs.of_moves (AnsweredAt.requests hu)) (hu.entries.mem_of_stays hx fun _ h => h.eq_of_ne hne) hp

/-! ## No operation outlives its end (R129)

These hold of every state: also where two entries share a place in the arrival order, both are gone with either's end. -/

/-- A move that leaves an entry the operation it had, or none, adds no operation. -/
theorem mem_operations_of_moves {R : Entry → Option Entry → Prop} {s t : State} (hm : TableMoves R s t)
    (hR : ∀ x y, R x (some y) → y.operation = none ∨ y.operation = x.operation) {o : Operation}
    (ho : o ∈ t.operations) : o ∈ s.operations := by
  obtain ⟨y, hy, hyo⟩ := List.mem_filterMap.mp ho
  obtain ⟨x, hx, hxy⟩ := hm.entries.mem hy
  refine List.mem_filterMap.mpr ⟨x, hx, ?_⟩
  rcases hR x y hxy with h | h
  · cases h.symm.trans hyo
  · exact h.symm.trans hyo

theorem mem_operations_of_settle {s : State} {o : Operation} (ho : o ∈ s.settle.operations) : o ∈ s.operations := by
  refine settle_keeps (fun t => o ∈ t.operations → o ∈ s.operations)
    (fun t ht ho => ht (mem_operations_of_moves (releaseCauses_moves t) (fun x y hxy => ?_) ho))
    (fun t e _ _ ht ho => ht (mem_operations_of_moves (examine_moves t e) (fun x y hxy => ?_) ho)) s id ho
  · obtain rfl := Option.some.inj hxy
    rcases releaseCause_cases t x with h | ⟨c, -, -, h⟩ <;> rw [h]
    · exact .inr rfl
    · exact .inl rfl
  · cases hxy with
    | answered => exact .inl rfl
    | ready => exact .inl rfl
    | stays => exact .inr rfl
    | rejoins => exact .inl rfl

theorem mem_operations_of_endOperation {s : State} {e : Entry} {st : Status} {d : Option Data} {o : Operation}
    (ho : o ∈ (s.endOperation e st d).operations) : o ∈ s.operations ∧ o.arrival ≠ e.arrival := by
  obtain ⟨u, hu, hend⟩ := endOperation_entries s e st d
  have hsettled : o ∈ u.settle.operations := by rwa [State.operations, ← hend]
  obtain ⟨y, hy, hyo⟩ := List.mem_filterMap.mp (mem_operations_of_settle hsettled)
  obtain ⟨x, hx, hxy⟩ := hu.entries.mem hy
  cases hxy with
  | answered => cases hyo
  | stays hne => exact ⟨List.mem_filterMap.mpr ⟨y, hx, hyo⟩, fun h => hne (((y.operation_eq_some_iff o).mp hyo).2.1.trans h)⟩

/-! ## The three steps of a link abort (R129) -/

/-- The entries whose operations are outstanding, in arrival order. -/
def State.outstanding (s : State) : List Entry := s.entries.filter Entry.isOutstanding

/-- Step 1: each outstanding READ_RESERVE breaks its holder's record. -/
def State.breakAborted (s : State) : State := s.outstanding.foldl (State.onLine State.endReserve) s

/-- Step 2, for the entries es: each outstanding write records its line. -/
def State.recordAborted (es : List Entry) (s : State) : State :=
  es.foldl (State.onLine fun s e l => s.faultWrite e l .writeAborted) s

/-- Step 3, for the entries es: each operation ends with ABORTED. -/
def State.endAborted (es : List Entry) (s : State) : State := es.foldl (fun s e => s.endOperation e .aborted none) s

/-- Steps 1 and 2 of a link abort. -/
def State.abortRecorded (s : State) : State := s.breakAborted.recordAborted s.outstanding

/-- Every tag becomes FREE and every bank IDLE, the link goes DOWN, and LINK_DOWN is posted. -/
def State.cutOff (s : State) : State :=
  { s with
    tags := Vector.replicate 12 .free, banks := Vector.replicate 32 .idle, link := .down
    notices := s.notices.post .linkDown none .none }

theorem linkAbort_eq (s : State) : s.linkAbort = (s.abortRecorded.endAborted s.outstanding).cutOff := rfl

end Sys2Proof.Machine
end

section
namespace Sys2Proof.Machine

open Sys2Proof

/-! ### What steps 1 and 2 leave -/

/-- What the turn of entry e brings about, from what the turns before it keep, the turns after it keep too. -/
theorem foldl_at_turn {A P : State → Prop} {f : State → Entry → State} {before after : List Entry} {e : Entry}
    (hbefore : ∀ u, ∀ x ∈ before, A u → A (f u x)) (hturn : ∀ u, A u → P (f u e))
    (hafter : ∀ u, ∀ x ∈ after, P u → P (f u x)) {s : State} (hs : A s) : P ((before ++ e :: after).foldl f s) := by
  rw [List.foldl_append, List.foldl_cons]
  exact List.foldlRecOn after f (hturn _ (List.foldlRecOn before f hs fun u hu x hx => hbefore u x hx hu))
    fun u hu x hx => hafter u x hx hu

/-- What each turn brings about for its entry, and every turn keeps, holds in the end for every entry. -/
theorem foldl_reaches {P : State → Prop} {f : State → Entry → State} {es : List Entry} {e : Entry} (he : e ∈ es)
    (hturn : ∀ u, P (f u e)) (hkeep : ∀ u x, P u → P (f u x)) (s : State) : P (es.foldl f s) := by
  obtain ⟨before, after, rfl⟩ := List.append_of_mem he
  exact foldl_at_turn (A := fun _ => True) (fun _ _ _ _ => trivial) (fun u _ => hturn u) (fun u x _ => hkeep u x) trivial

/-- What f keeps for every entry with a line, the fold keeps. -/
theorem foldl_onLine_eq {α : Type} (g : State → α) {f : State → Entry → Line → State}
    (hf : ∀ s e l, g (f s e l) = g s) (es : List Entry) (s : State) : g (es.foldl (State.onLine f) s) = g s :=
  List.foldlRecOn (motive := fun u => g u = g s) es _ rfl fun u hu e _ => by
    unfold State.onLine
    split
    · exact hu
    · exact (hf u e _).trans hu

theorem onLine_of_line {f : State → Entry → Line → State} {e : Entry} {l : Line} (hl : e.line = some l) (s : State) :
    State.onLine f s e = f s e l := by
  simp only [State.onLine, hl]

theorem onLine_of_no_line {f : State → Entry → Line → State} {e : Entry} (hl : e.line = none) (s : State) :
    State.onLine f s e = s := by
  simp only [State.onLine, hl]

theorem onLine_endReserve {e : Entry} {l : Line} (hk : e.kind = .readReserve) (hl : e.line = some l) (s : State) :
    State.onLine State.endReserve s e =
      { s with
        reservations := s.reservations.set (holderOf e.port e.context)
          ((s.reservations[holderOf e.port e.context]).break l .readFailed) } := by
  rw [onLine_of_line hl, State.endReserve_eq, if_pos hk]

theorem onLine_endReserve_of_other {e : Entry} (h : ∀ l, e.kind = .readReserve → e.line = some l → False) (s : State) :
    State.onLine State.endReserve s e = s := by
  cases hl : e.line with
  | none => exact onLine_of_no_line hl s
  | some l => rw [onLine_of_line hl, State.endReserve, if_neg fun hk => h l hk hl]

theorem onLine_keeps {P : State → Prop} {f : State → Entry → Line → State} (hf : ∀ s e l, P s → P (f s e l)) (s : State)
    (e : Entry) (hs : P s) : P (State.onLine f s e) := by
  unfold State.onLine
  split
  · exact hs
  · exact hf s e _ hs

/-- The state without the reservations, the fault list and the notices, on which the end of an operation acts. -/
def State.sansRecords (s : State) : State :=
  { s with
    reservations := State.reset.reservations
    faults := State.reset.faults
    notices := State.reset.notices }

theorem endReserve_sansRecords (s : State) (e : Entry) (l : Line) : (s.endReserve e l).sansRecords = s.sansRecords := by
  rw [s.endReserve_eq]; rfl

theorem faultWrite_sansRecords (s : State) (e : Entry) (l : Line) (c : FaultCause) :
    (s.faultWrite e l c).sansRecords = s.sansRecords := by
  unfold State.faultWrite
  split
  · rw [s.recordFault_frame]; rfl
  · rfl

/-- Steps 1 and 2 of a link abort change reservations, fault list and notices alone. -/
theorem abortRecorded_sansRecords (s : State) : s.abortRecorded.sansRecords = s.sansRecords :=
  (foldl_onLine_eq State.sansRecords (fun s e l => faultWrite_sansRecords s e l .writeAborted) s.outstanding _).trans
    (foldl_onLine_eq State.sansRecords endReserve_sansRecords s.outstanding s)

theorem abortRecorded_same (s : State) : SameTable s s.abortRecorded :=
  have hsans := abortRecorded_sansRecords s
  .of_eq (congrArg State.entries hsans :) (congrArg State.config hsans :) (congrArg State.nextArrival hsans :)
    (congrArg State.partState hsans :)

/-- Line l is on the fault list, or the list is full (R75). -/
def State.ListedOrFull (l : Line) (s : State) : Prop := (∃ f ∈ s.faults, f.line = l) ∨ 8 ≤ s.faults.length

theorem recordFault_faults_prefix (s : State) (l : Line) (c : FaultCause) (p : Port) :
    s.faults <+: (s.recordFault l c p).faults := by
  unfold State.recordFault
  rcases s.listFault_cases l c p with h | ⟨-, -, h⟩ | h <;> rw [h]
  · exact List.prefix_rfl
  · exact List.prefix_append _ _
  · exact List.prefix_rfl

theorem recordFault_listedOrFull (s : State) (l : Line) (c : FaultCause) (p : Port) :
    (s.recordFault l c p).ListedOrFull l := by
  unfold State.ListedOrFull State.recordFault
  cases hl : s.listed l with
  | true =>
    rw [s.listFault_of_listed l c p hl]
    exact .inl ((s.listed_iff l).mp hl)
  | false =>
    by_cases hroom : s.faults.length < 8
    · rw [s.listFault_adds l c p hl hroom]
      exact .inl ⟨⟨l, c, p⟩, List.mem_append_right _ (List.mem_singleton_self _), rfl⟩
    · rw [s.listFault_full l c p hl (Nat.not_lt.mp hroom)]
      exact .inr (Nat.not_lt.mp hroom)

theorem State.ListedOrFull.faultWrite {l : Line} {s : State} (h : s.ListedOrFull l) (e : Entry) (k : Line)
    (c : FaultCause) : (s.faultWrite e k c).ListedOrFull l := by
  unfold State.faultWrite
  split
  · have hprefix := recordFault_faults_prefix s k c e.port
    exact h.imp (fun ⟨f, hf, hfl⟩ => ⟨f, hprefix.subset hf, hfl⟩) fun hfull => hfull.trans hprefix.length_le
  · exact h

/-- Step 2 lists the line of each write, while there is room (R74, R75). -/
theorem recordAborted_listedOrFull {es : List Entry} {e : Entry} {l : Line} (he : e ∈ es) (hl : e.line = some l)
    (hw : isWrite e.kind = true) (s : State) : (s.recordAborted es).ListedOrFull l := by
  refine foldl_reaches he (fun u => ?_) (onLine_keeps fun u x k hu => hu.faultWrite x k .writeAborted) s
  rw [onLine_of_line hl, State.faultWrite, if_pos hw]
  exact recordFault_listedOrFull u l .writeAborted e.port

/-- Holder h has no record LIVE on line l. -/
def State.NotLiveOn (h : Holder) (l : Line) (s : State) : Prop := ∀ i, s.reservations[h].state ≠ .live l i

theorem Concludes.notLiveOn {s t : State} (hst : Concludes s t) {h : Holder} {l : Line} (hs : s.NotLiveOn h l) :
    t.NotLiveOn h l := fun i hl => hs i (hst.live h l i hl)

/-- Step 1 leaves the holder of an outstanding READ_RESERVE no record LIVE on its line (R30). -/
theorem breakAborted_notLiveOn {s : State} {e : Entry} {l : Line} (he : e ∈ s.outstanding) (hl : e.line = some l)
    (hk : e.kind = .readReserve) : s.breakAborted.NotLiveOn (holderOf e.port e.context) l := by
  refine foldl_reaches he (fun u i hlive => ?_)
    (onLine_keeps fun u x k hu => (endReserve_concludes u x k).notLiveOn hu) s
  rw [onLine_of_line hl, State.endReserve, if_pos hk, State.breakReadFailed_get, if_pos rfl] at hlive
  exact (Reservation.live_of_break hlive).2 rfl

theorem recordAborted_concludes (s : State) (es : List Entry) : Concludes s (s.recordAborted es) :=
  List.foldlRecOn (motive := Concludes s) es _ (.refl s) fun u hu e _ =>
    onLine_keeps (fun u e l hu => hu.trans (faultWrite_concludes u e l .writeAborted)) u e hu

/-! ### What step 3 leaves -/

theorem endAborted_concludes (s : State) (es : List Entry) : Concludes s (s.endAborted es) :=
  List.foldlRecOn (motive := Concludes s) es _ (.refl s) fun u hu e _ =>
    hu.trans (endOperation_concludes u e .aborted none)

/-- The end of every operation leaves none of them outstanding. -/
theorem mem_operations_of_endAborted {es : List Entry} {s : State} {o : Operation}
    (ho : o ∈ (s.endAborted es).operations) : o ∈ s.operations ∧ ∀ e ∈ es, o.arrival ≠ e.arrival := by
  induction es generalizing s with
  | nil => exact ⟨ho, by simp⟩
  | cons e es ih =>
    obtain ⟨hmem, hes⟩ := ih ho
    obtain ⟨hmem, hne⟩ := mem_operations_of_endOperation hmem
    exact ⟨hmem, List.forall_mem_cons.mpr ⟨hne, hes⟩⟩

/-- Where the entries are those of s, the end of all its operations leaves no entry ISSUED or ORPHANED. -/
theorem endAborted_none_outstanding {s u : State} (hu : u.entries = s.entries) {e : Entry}
    (he : e ∈ (u.endAborted s.outstanding).entries) : e.isOutstanding = false := by
  rw [e.isOutstanding_eq, Option.isSome_eq_false_iff, Option.isNone_iff_eq_none, Option.eq_none_iff_forall_ne_some]
  intro o ho
  obtain ⟨hmem, hleft⟩ := mem_operations_of_endAborted (List.mem_filterMap.mpr ⟨e, he, ho⟩)
  rw [State.operations, hu] at hmem
  obtain ⟨x, hx, hxo⟩ := List.mem_filterMap.mp hmem
  refine hleft x (List.mem_filter.mpr ⟨hx, ?_⟩) ((x.operation_eq_some_iff o).mp hxo).2.1.symm
  rw [x.isOutstanding_eq, hxo]
  rfl

/-- Entry e of an ended operation is answered ABORTED: its response is placed, or it waits for a place (R18, R20). -/
def State.AnsweredAborted (e : Entry) (s : State) : Prop :=
  (∃ r ∈ s.ports[e.port].responses, r.portTag = e.portTag ∧ r.status = .aborted) ∨
    ∃ x ∈ s.entries, x.arrival = e.arrival ∧ ∃ n, x.state = .answered .aborted n

/-- A response that is placed stays in its queue, and an entry that waits stays in the table. -/
theorem State.AnsweredAborted.of_concludes {e : Entry} {s t : State} (h : s.AnsweredAborted e) (hst : Concludes s t)
    (hstays : ∀ x ∈ s.entries, 3 ≤ x.phase → x.arrival = e.arrival → x ∈ t.entries) : t.AnsweredAborted e := by
  rcases h with ⟨r, hr, htag⟩ | ⟨x, hx, hxe, n, hn⟩
  · exact .inl ⟨r, (hst.responses e.port).subset hr, htag⟩
  · exact .inr ⟨x, hstays x hx (by simp [Entry.phase, hn]) hxe, hxe, n, hn⟩

theorem State.AnsweredAborted.settle {e : Entry} {s : State} (ha : ArrivalLaw s) (h : s.AnsweredAborted e) :
    s.settle.AnsweredAborted e :=
  h.of_concludes (settle_concludes s) fun _ hx hp _ => settle_stays ha hx hp

theorem State.AnsweredAborted.endOperation {e x : Entry} {s : State} (ha : ArrivalLaw s) (h : s.AnsweredAborted e)
    (hne : e.arrival ≠ x.arrival) (st : Status) (d : Option Data) : (s.endOperation x st d).AnsweredAborted e :=
  h.of_concludes (endOperation_concludes s x st d) fun _ hy hp hye =>
    endOperation_stays ha hy hp (fun hyx => hne (hye.symm.trans hyx)) st d

theorem placeEntry_ports {s : State} {e : Entry} {st : Status} {k : Nat} (h : e.state = .answered st k) :
    (s.placeEntry e).ports = (s.placeResponse e.port (e.response st)).ports := by
  simp only [State.placeEntry, h, State.removeEntries_ports]

theorem placeIfRoom_answeredAborted {s : State} (ha : ArrivalLaw s) {e : Entry} (he : e ∈ s.entries) {k : Nat}
    (hans : e.state = .answered .aborted k) : (s.placeIfRoom e.arrival).AnsweredAborted e := by
  by_cases hroom : s.ports[e.port].responses.length < 8
  · refine .inl ⟨e.response .aborted, ?_, rfl, rfl⟩
    rw [placeIfRoom_free ha he hroom, placeEntry_ports hans, State.placeResponse_get, if_pos rfl]
    exact List.mem_append_right _ (List.mem_singleton_self _)
  · rw [placeIfRoom_full ha he (Nat.not_lt.mp hroom)]
    exact .inr ⟨e, he, rfl, k, hans⟩

theorem answer_answeredAborted {s : State} (ha : ArrivalLaw s) {e : Entry} (he : e ∈ s.entries) :
    (s.answer e.arrival .aborted none).AnsweredAborted e := by
  have hlaw : ArrivalLaw (s.markAnswered e.arrival .aborted none) :=
    ha.of_moves (AnsweredAt.requests (markAnswered_moves s e.arrival .aborted none))
  have hmarked : e.answer .aborted none s.nextAnswer ∈ (s.markAnswered e.arrival .aborted none).entries :=
    List.mem_map.mpr ⟨e, he, if_pos rfl⟩
  have hplaced := placeIfRoom_answeredAborted hlaw hmarked rfl
  exact hplaced

/-- Step 3 answers every ISSUED entry with ABORTED: the ends before its own leave it, and those after leave its answer. -/
theorem endAborted_answeredAborted {s u : State} (ha : ArrivalLaw s) (hu : SameTable s u) {e : Entry}
    (he : e ∈ s.entries) (hi : e.isIssued = true) : (u.endAborted s.outstanding).AnsweredAborted e := by
  have hphase : e.isOrphaned = false ∧ 3 ≤ e.phase := by
    obtain ⟨k, hk⟩ := e.isIssued_iff.mp hi
    simp [Entry.isOrphaned, Entry.phase, hk]
  have hout : e ∈ s.outstanding := List.mem_filter.mpr ⟨he, by simp [Entry.isOutstanding, hi]⟩
  have hau : ArrivalLaw u := arrivalLaw_happening.same ha hu
  have hsorted : s.outstanding.Pairwise (fun x y => x.arrival < y.arrival) := ha.1.filter _
  obtain ⟨before, after, hsplit⟩ := List.append_of_mem hout
  rw [hsplit] at hsorted ⊢
  obtain ⟨-, hafter, hbefore⟩ := List.pairwise_append.mp hsorted
  refine (foldl_at_turn (A := fun t => ArrivalLaw t ∧ e ∈ t.entries)
    (P := fun t => ArrivalLaw t ∧ t.AnsweredAborted e) (fun t x hx ⟨hlaw, hmem⟩ => ?_) (fun t ⟨hlaw, hmem⟩ => ?_)
    (fun t x hx ⟨hlaw, hans⟩ => ?_) ⟨hau, hu.entries ▸ he⟩).2
  · have hne := (hbefore x hx e (List.mem_cons_self ..)).ne'
    exact ⟨arrivalLaw_happening.endOperation hlaw x .aborted none, endOperation_stays hlaw hmem hphase.2 hne _ _⟩
  · have hended : t.endOperation e .aborted none = (t.answer e.arrival .aborted none).settle :=
      if_neg (Bool.eq_false_iff.mp hphase.1)
    refine ⟨arrivalLaw_happening.endOperation hlaw e .aborted none, ?_⟩
    rw [hended]
    exact (answer_answeredAborted hlaw hmem).settle (hlaw.of_moves (answer_follows 0 t _ _ _).requests)
  · have hne := ((List.pairwise_cons.mp hafter).1 x hx).ne
    exact ⟨arrivalLaw_happening.endOperation hlaw x .aborted none, hans.endOperation hlaw hne _ _⟩

/-! ### What a link abort leaves -/

/-- The state without what a link abort can change. -/
def State.outsideAbort (s : State) : State :=
  { s.sansRecords with
    tags := State.reset.tags
    banks := State.reset.banks
    link := State.reset.link
    entries := State.reset.entries
    nextAnswer := State.reset.nextAnswer
    ports := State.reset.ports
    guards := State.reset.guards
    partState := State.reset.partState }

theorem eq_of_outsideAbort {s t : State} (h : t.outsideAbort = s.outsideAbort) :
    t = { s with
      tags := t.tags, banks := t.banks, link := t.link, entries := t.entries, nextAnswer := t.nextAnswer
      ports := t.ports, reservations := t.reservations, guards := t.guards, faults := t.faults
      notices := t.notices, partState := t.partState } := by
  cases s
  cases t
  simp only [State.outsideAbort, State.sansRecords, State.mk.injEq, true_and] at h ⊢
  exact h

theorem endOperation_outsideAbort (s : State) (e : Entry) (st : Status) (d : Option Data) :
    (s.endOperation e st d).outsideAbort = s.outsideAbort := by
  simp [State.outsideAbort, State.sansRecords]

theorem endAborted_outsideAbort (s : State) (es : List Entry) : (s.endAborted es).outsideAbort = s.outsideAbort :=
  List.foldlRecOn (motive := fun u => u.outsideAbort = s.outsideAbort) es _ rfl fun u hu e _ =>
    (endOperation_outsideAbort u e .aborted none).trans hu

theorem linkAbort_outsideAbort (s : State) : s.linkAbort.outsideAbort = s.outsideAbort :=
  (endAborted_outsideAbort s.abortRecorded s.outstanding).trans
    (congrArg State.outsideAbort (abortRecorded_sansRecords s) :)

theorem linkAbort_none_outstanding {s : State} {e : Entry} (he : e ∈ s.linkAbort.entries) :
    e.isIssued = false ∧ e.isOrphaned = false := by
  have hnone := endAborted_none_outstanding (abortRecorded_same s).entries he
  simpa [Entry.isOutstanding] using hnone

theorem linkAbort_notLiveOn {s : State} {e : Entry} {l : Line} (he : e ∈ s.outstanding) (hl : e.line = some l)
    (hk : e.kind = .readReserve) : s.linkAbort.NotLiveOn (holderOf e.port e.context) l :=
  ((recordAborted_concludes _ _).trans (endAborted_concludes _ _)).notLiveOn (breakAborted_notLiveOn he hl hk)

/-- The LINK_RESET command with the link UP: the signal is sent, and then the link is aborted (R130). -/
theorem exec_linkReset_of_up {s : State} (hpor : s.porAsserted = false) (hup : s.link = .up) (args : CommandArguments) :
    exec (.linkReset args) s = .next
      { (s.send .linkReset).linkAbort with
        frameOut := s.frameOut ++ [⟨s.mgmt.frameStatus, []⟩]
        mgmt := { s.mgmt with result := .done, resultCode := 5, frameStatus := .ok } } := by
  have hup' : (s.send .linkReset).link = .up := hup
  have houtside := linkAbort_outsideAbort (s.send .linkReset)
  have hout : (s.send .linkReset).linkAbort.frameOut = s.frameOut := (congrArg State.frameOut houtside :)
  have hmgmt : (s.send .linkReset).linkAbort.mgmt = s.mgmt := (congrArg State.mgmt houtside :)
  rw [exec_linkReset hpor, signalDown_of_up hup', State.endCommand_eq, hout, hmgmt]

/-- Settles O32, step by step: each turn of steps 1 and 2 brings about its own effect, which later turns keep; each turn of
step 3 ends one operation, and leaves the others, answered or yet to be ended, as they are. -/
theorem linkAbortEndsEveryOperation : Obligations.LinkAbortEndsEveryOperation := by
  intro s args hpor hup bound s1 s2 s3 t
  have h1 : s1 = s.breakAborted := by
    refine congrArg (fun f => List.foldl f s bound) (funext₂ fun u e => ?_)
    split
    next hk hl => exact (onLine_endReserve hk hl u).symm
    next hother => exact (onLine_endReserve_of_other hother u).symm
  have h2 : s2 = s1.recordAborted bound := by
    refine congrArg (fun f => List.foldl f s1 bound) (funext₂ fun u e => ?_)
    split
    next hl => rw [onLine_of_line hl, State.faultWrite_eq]
    next hl => rw [onLine_of_no_line hl]
  have hs2 : s2 = s.abortRecorded := h2.trans (congrArg (State.recordAborted bound) h1)
  have ht : t = s.linkAbort :=
    (congrArg (fun u => (State.endAborted bound u).cutOff) hs2).trans (linkAbort_eq s).symm
  rw [ht, hs2]
  have hsans := abortRecorded_sansRecords s
  refine ⟨?_, ⟨(congrArg State.guards hsans :), (congrArg State.entries hsans :), (congrArg State.ports hsans :)⟩,
    fun e he l hl hw => recordAborted_listedOrFull he hl ((isWrite_iff e.kind).mpr hw) s.breakAborted,
    fun e he => linkAbort_none_outstanding he, fun ha e he hi => ?_,
    fun e he hk l i hl => linkAbort_notLiveOn he hl hk i, eq_of_outsideAbort (linkAbort_outsideAbort s),
    (s.send .linkReset).linkAbort, ?_, exec_linkReset_of_up hpor hup args⟩
  · rw [exec_linkDown hpor, signalDown_of_up hup]
  · exact endAborted_answeredAborted ha (abortRecorded_same s) he hi
  · exact (exec_linkDown (s := s.send .linkReset) hpor).trans (congrArg Host.Outcome.next (signalDown_of_up hup))

end Sys2Proof.Machine
end

/-! # Upstream ports (08_upstream_ports.md) -/

section
namespace Sys2Proof.Machine

open Sys2Proof

/-! ## The steps of a port reset (R146) -/

/-- Steps 1 to 3 of a port reset: the port is FENCED, its queue empty, and its two records IDLE. -/
def State.clearPort (s : State) (p : Port) : State := (s.setPort p ⟨.fenced, []⟩).clearHolders p

/-- Step 4 of a port reset before its checks: of the port's entries only its orphans are left. -/
def State.orphanPort (s : State) (p : Port) : State :=
  (s.setEntries (s.entries.map fun e => e.orphan p)).removeEntries fun e => e.port == p && !e.isOrphaned

/-- Step 5 of a port reset, before its checks (R61). -/
def State.releaseOwned (s : State) (p : Port) : State := allGuards.foldl (State.releaseIfOwned p) s

theorem resetEntries_eq (s : State) (p : Port) : s.resetEntries p = (s.orphanPort p).settle := rfl

theorem resetPort_eq (s : State) (p : Port) :
    s.resetPort p = (((s.clearPort p).resetEntries p).releaseOwned p).settle.endFencing p := rfl

theorem orphanPort_follows (limit : Nat) (s : State) (p : Port) : TableFollows limit s (s.orphanPort p) :=
  (orphanEntries_follows limit s p).trans (removeEntries_follows limit _ _)

theorem releaseOwned_follows (limit : Nat) (s : State) (p : Port) : TableFollows limit s (s.releaseOwned p) :=
  List.foldlRecOn (motive := TableFollows limit s) allGuards (State.releaseIfOwned p) (.of_same (.refl s))
    fun t ht g _ => by
      unfold State.releaseIfOwned
      split
      · exact ht.trans (releaseGuard_follows limit t g)
      · exact ht

theorem clearPort_reservations (s : State) (p : Port) (h : Holder) :
    (s.clearPort p).reservations[h] = if portOf h = p then ⟨.idle, 0⟩ else s.reservations[h] :=
  State.clearHolders_get _ p h

theorem clearPort_get (s : State) (p q : Port) :
    (s.clearPort p).ports[q] = if p = q then ⟨.fenced, []⟩ else s.ports[q] := by
  rw [State.clearPort, State.clearHolders_ports, State.setPort_get]

theorem resetEntries_tableOnly (s : State) (p : Port) : TableOnly s (s.resetEntries p) :=
  ((setEntries_tableOnly s _).trans (removeEntries_tableOnly _ _)).trans (settle_tableOnly _)

theorem releaseOwned_tableOnly (s : State) (p : Port) : TableOnly s (s.releaseOwned p) :=
  List.foldlRecOn (motive := TableOnly s) allGuards _ (.refl s) fun t ht g _ => by
    unfold State.releaseIfOwned
    split
    · exact ht.trans (releaseGuard_tableOnly t g)
    · exact ht

/-- What is within the frame of the table's work is all that can differ. -/
theorem TableOnly.frame {s t : State} (h : TableOnly s t) :
    t = { s with
      ports := t.ports, entries := t.entries, nextAnswer := t.nextAnswer, reservations := t.reservations
      guards := t.guards, notices := t.notices, partState := t.partState } := by
  cases h
  cases s
  cases t
  simp_all

/-- Steps 4 and 5 of a port reset, after the first three. -/
theorem resetSteps_tableOnly (s : State) (p : Port) : TableOnly s ((s.resetEntries p).releaseOwned p).settle :=
  ((resetEntries_tableOnly s p).trans (releaseOwned_tableOnly _ p)).trans (settle_tableOnly _)

theorem resetPort_frame (s : State) (p : Port) :
    s.resetPort p = { s with
      ports := (s.resetPort p).ports, entries := (s.resetPort p).entries, nextAnswer := (s.resetPort p).nextAnswer
      reservations := (s.resetPort p).reservations, guards := (s.resetPort p).guards
      notices := (s.resetPort p).notices, partState := (s.resetPort p).partState } := by
  rw [resetPort_eq]
  have hframe := (resetSteps_tableOnly (s.clearPort p) p).frame
  generalize (((s.clearPort p).resetEntries p).releaseOwned p).settle = u at hframe ⊢
  rw [u.endFencing_frame p, hframe]
  rfl

end Sys2Proof.Machine
end

section
namespace Sys2Proof.Machine

open Sys2Proof

/-! ## Fenced ports and orphans (R136, R147)

The law of fencing looks at no more of a state than each port's state and ORPHANED entries.
Most happenings keep both. -/

/-- A port is FENCED exactly while it holds an orphan: the law of fencing at port p. -/
def State.FencedByOrphans (s : State) (p : Port) : Prop := s.ports[p].state = .fenced ↔ s.hasOrphan p = true

theorem fenceLaw_iff (s : State) : FenceLaw s ↔ ∀ p, s.FencedByOrphans p :=
  forall_congr' fun p => iff_congr Iff.rfl (s.hasOrphan_eq_true p).symm

/-- From s to t port p keeps its state and its ORPHANED entries. -/
structure KeepsFence (p : Port) (s t : State) : Prop where
  portState : t.ports[p].state = s.ports[p].state
  orphans : ∀ e : Entry, e.port = p → e.isOrphaned = true → (e ∈ t.entries ↔ e ∈ s.entries)

namespace KeepsFence

variable {p : Port} {s t u : State}

theorem of_eq (he : t.entries = s.entries) (hp : t.ports = s.ports) : KeepsFence p s t :=
  ⟨by rw [hp], fun _ _ _ => by rw [he]⟩

theorem refl (s : State) : KeepsFence p s s := of_eq rfl rfl

theorem trans (h : KeepsFence p s t) (k : KeepsFence p t u) : KeepsFence p s u :=
  ⟨k.portState.trans h.portState, fun e hp ho => (k.orphans e hp ho).trans (h.orphans e hp ho)⟩

/-- A move of the table that neither changes an orphan of the port nor makes one. -/
theorem of_moves {R : Entry → Option Entry → Prop} (hm : TableMoves R s t)
    (hstate : t.ports[p].state = s.ports[p].state)
    (hstay : ∀ x ∈ s.entries, x.port = p → x.isOrphaned = true → ∀ o, R x o → o = some x)
    (hnew : ∀ x ∈ s.entries, ∀ y, R x (some y) → y.port = p → y.isOrphaned = true → y = x) : KeepsFence p s t := by
  refine ⟨hstate, fun e hp ho => ⟨fun he => ?_, fun he => ?_⟩⟩
  · obtain ⟨x, hx, hxe⟩ := hm.entries.mem he
    exact hnew x hx e hxe hp ho ▸ hx
  · exact hm.entries.mem_of_stays he (hstay e he hp ho)

theorem hasOrphan (h : KeepsFence p s t) : t.hasOrphan p = s.hasOrphan p := by
  rw [Bool.eq_iff_iff, State.hasOrphan_eq_true, State.hasOrphan_eq_true]
  constructor
  · rintro ⟨e, he, hp, ho⟩
    exact ⟨e, (h.orphans e hp ho).mp he, hp, ho⟩
  · rintro ⟨e, he, hp, ho⟩
    exact ⟨e, (h.orphans e hp ho).mpr he, hp, ho⟩

theorem fenced (h : KeepsFence p s t) (hs : s.FencedByOrphans p) : t.FencedByOrphans p := by
  rwa [State.FencedByOrphans, h.portState, h.hasOrphan]

end KeepsFence

theorem FenceLaw.keeps {s t : State} (hs : FenceLaw s) (h : ∀ p, KeepsFence p s t) : FenceLaw t :=
  (fenceLaw_iff t).mpr fun p => (h p).fenced ((fenceLaw_iff s).mp hs p)

theorem FenceLaw.of_eq {s t : State} (hs : FenceLaw s) (he : t.entries = s.entries) (hp : t.ports = s.ports) :
    FenceLaw t := hs.keeps fun _ => .of_eq he hp

theorem stateByEnable_ne_fenced (c : PortConfig) : stateByEnable c ≠ .fenced := by
  unfold stateByEnable; split <;> simp

/-- No port is FENCED and the table is empty. -/
theorem FenceLaw.of_empty {s : State} (he : s.entries = []) (hp : ∀ p : Port, s.ports[p].state ≠ .fenced) :
    FenceLaw s := fun p => by simpa [he] using hp p

/-! ### What keeps a port's fence -/

theorem Entry.phase_of_orphaned {e : Entry} (h : e.isOrphaned = true) : e.phase = 4 := by
  obtain ⟨t, ht⟩ := e.isOrphaned_iff.mp h
  simp [Entry.phase, ht]

section KeepsFence

variable {p : Port} {s : State}

theorem settle_keepsFence (ha : ArrivalLaw s) : KeepsFence p s s.settle where
  portState := (settle_tableOnly s).portState p
  orphans e _ ho := by
    have hout : e.isOutstanding = true := e.isOutstanding_iff_phase.mpr (.inr (Entry.phase_of_orphaned ho))
    have hmem : ∀ l : List Entry, e ∈ l ↔ e ∈ l.filter Entry.isOutstanding := fun l => by simp [hout]
    rw [hmem, settle_outstanding ha, ← hmem]

theorem releaseGuard_keepsFence (g : GuardNo) : KeepsFence p s (s.releaseGuard g) := by
  refine .of_moves (releaseGuard_moves s g) rfl (fun x _ _ ho o h => ?_) fun x _ y h _ ho => ?_
  · cases h with
    | stays => rfl
    | rejoins k hk => simp [Entry.isOrphaned, hk] at ho
  · cases h with
    | stays => rfl
    | rejoins => cases ho

/-- What is answered at place n, where no orphan of the port stands. -/
theorem AnsweredAt.keepsFence {n : Nat} {t : State} (hm : TableMoves (AnsweredAt n) s t) (hf : TableOnly s t)
    (hn : ∀ x ∈ s.entries, x.port = p → x.isOrphaned = true → x.arrival ≠ n) : KeepsFence p s t := by
  refine .of_moves hm (hf.portState p) (fun x hx hp ho o h => h.eq_of_ne (hn x hx hp ho)) fun x _ y h _ ho => ?_
  cases h with
  | answered => cases ho
  | stays => rfl

theorem placeEntry_keepsFence (ha : ArrivalLaw s) {e : Entry} (he : e ∈ s.entries) (hans : e.isAnswered = true) :
    KeepsFence p s (s.placeEntry e) := by
  refine .of_moves (placeEntry_moves s e) ((placeEntry_tableOnly s e).portState p) (fun x hx _ ho o h => ?_)
    fun x _ y h _ _ => h.eq
  cases h with
  | stays => rfl
  | leaves hxe =>
    have h4 := Entry.phase_of_orphaned ho
    rw [ha.unique hx he hxe, e.isAnswered_iff_phase.mp hans] at h4
    cases h4

theorem raiseBypass_of_not_ready {e x : Entry} (h : x.state ≠ .ready) : s.raiseBypass e x = x :=
  if_neg fun hc => h (State.isCandidate_ready hc.1)

theorem bind_keepsFence (ha : ArrivalLaw s) {e : Entry} (he : e ∈ s.candidates) (l : Line) (k : Tag) :
    KeepsFence p s (s.bind e l k) := by
  obtain ⟨hmem, hcand⟩ := List.mem_filter.mp he
  have hready := State.isCandidate_ready hcand
  have hnot : ∀ x : Entry, x.isOrphaned = true → x.state ≠ .ready := by
    intro x ho hx
    simp [Entry.isOrphaned, hx] at ho
  refine .of_moves (bind_moves s e l k) rfl (fun x hx _ ho o h => ?_) fun x _ y h _ ho => ?_
  · cases h with
    | issued hxe => exact (hnot x ho (ha.unique hx hmem hxe ▸ hready)).elim
    | passed => rw [raiseBypass_of_not_ready (hnot x ho)]
  · cases h with
    | issued => cases ho
    | passed => exact raiseBypass_of_not_ready fun hx => hnot _ ho (raiseBypass_state s e x ▸ hx)

theorem enter_keepsFence (q : Port) (m : Request) : KeepsFence p s (s.enter q m) where
  portState := rfl
  orphans e _ ho := by
    have hne : e ≠ s.entrant q m := by
      rintro rfl
      have hle := entrant_phase_le s q m
      rw [Entry.phase_of_orphaned ho] at hle
      omega
    simp [enter_entries, hne]

/-- What leaves the table is no orphan of the port. -/
theorem removeEntries_keepsFence {gone : Entry → Bool} (h : ∀ x, x.port = p → x.isOrphaned = true → gone x = false) :
    KeepsFence p s (s.removeEntries gone) where
  portState := by rw [State.removeEntries_ports]
  orphans e hp ho := by simp [h e hp ho]

theorem Entry.orphan_of_ne {e : Entry} {q : Port} (h : e.port ≠ q) : e.orphan q = e := if_neg h

/-- The orphaning of another port's entries. -/
theorem orphanEntries_keepsFence {q : Port} (hq : p ≠ q) :
    KeepsFence p s (s.setEntries (s.entries.map fun e => e.orphan q)) := by
  refine .of_moves (setEntries_moves (R := fun x o => o = some (x.orphan q)) (.map _ fun _ _ => rfl)) rfl
    (fun x _ hp _ o h => ?_) fun x _ y h hp _ => ?_
  · rw [h, Entry.orphan_of_ne (hp ▸ hq)]
  · obtain rfl := Option.some.inj h
    rw [Entry.orphan_port] at hp
    exact Entry.orphan_of_ne (hp ▸ hq)

end KeepsFence

/-! ### Port resets and the ends of operations (R19, R22, R122, R147) -/

/-- The end of fencing at p restores the law there, if an orphan of p finds it FENCED. -/
theorem fenceLaw_endFencing {s : State} {p : Port} (hothers : ∀ q, q ≠ p → s.FencedByOrphans q)
    (hp : s.hasOrphan p = true → s.ports[p].state = .fenced) : FenceLaw (s.endFencing p) := by
  rcases s.endFencing_cases p with ⟨-, hnone, h⟩ | ⟨hnot, h⟩ <;> rw [h, fenceLaw_iff] <;> intro q
  · have horphan : ((s.setPort p { s.ports[p] with state := stateByEnable s.config.ports[p] }).post .portResetDone
        (some p) .none).hasOrphan q = s.hasOrphan q := rfl
    rw [State.FencedByOrphans, horphan, State.post_ports, State.setPort_get]
    by_cases hq : p = q
    · subst hq
      simp [hnone, stateByEnable_ne_fenced]
    · rw [if_neg hq]
      exact hothers q (Ne.symm hq)
  · by_cases hq : q = p
    · subst hq
      refine ⟨fun hf => ?_, hp⟩
      by_contra hnone
      exact hnot ⟨hf, Bool.eq_false_iff.mpr hnone⟩
    · exact hothers q hq

theorem resetEntries_keepsFence {s : State} (ha : ArrivalLaw s) {p q : Port} (hq : q ≠ p) :
    KeepsFence q s (s.resetEntries p) :=
  ((orphanEntries_keepsFence hq).trans (removeEntries_keepsFence fun x hx _ => by simp [hx, hq])).trans
    (settle_keepsFence (ha.of_moves (orphanPort_follows 0 s p).requests))

theorem releaseOwned_keepsFence (s : State) (p q : Port) : KeepsFence q s (s.releaseOwned p) :=
  List.foldlRecOn (motive := KeepsFence q s) allGuards (State.releaseIfOwned p) (.refl s) fun t ht g _ => by
    unfold State.releaseIfOwned
    split
    · exact ht.trans (releaseGuard_keepsFence g)
    · exact ht

namespace FenceLaw

variable {s : State}

theorem resetPort (hs : FenceLaw s) (ha : ArrivalLaw s) (p : Port) : FenceLaw (s.resetPort p) := by
  have hclear : ArrivalLaw (s.clearPort p) := ha
  have hreleased := (arrivalLaw_happening.resetEntries hclear p).of_moves (releaseOwned_follows 0 _ p).requests
  rw [resetPort_eq]
  refine fenceLaw_endFencing (fun q hq => ?_) fun _ => ?_
  · have hcleared : KeepsFence q s (s.clearPort p) :=
      ⟨by rw [clearPort_get, if_neg hq.symm], fun _ _ _ => Iff.rfl⟩
    have hreset := (resetEntries_keepsFence hclear hq).trans (releaseOwned_keepsFence _ p q)
    exact ((hcleared.trans hreset).trans (settle_keepsFence hreleased)).fenced ((fenceLaw_iff s).mp hs q)
  · rw [(resetSteps_tableOnly (s.clearPort p) p).portState, clearPort_get, if_pos rfl]

/-- The end of the operation of an entry that is the only one at its place, if an orphan stands there. -/
theorem endOperation (hs : FenceLaw s) (ha : ArrivalLaw s) {e : Entry}
    (he : ∀ x ∈ s.entries, x.isOrphaned = true → x.arrival = e.arrival → x = e) (st : Status) (d : Option Data) :
    FenceLaw (s.endOperation e st d) := by
  unfold State.endOperation
  split
  next =>
    have hleft := ha.of_moves (AnsweredAt.requests (leaveAt_moves s e.arrival))
    have hfenced : FenceLaw
        ((s.setEntries (s.entries.filter fun x => x.arrival != e.arrival)).settle.endFencing e.port) := by
      refine fenceLaw_endFencing (fun q hq => ?_) fun horphan => ?_
      · refine (KeepsFence.trans ?_ (settle_keepsFence hleft)).fenced ((fenceLaw_iff s).mp hs q)
        exact AnsweredAt.keepsFence (leaveAt_moves s _) (setEntries_tableOnly s _) fun x hx hp ho hxe =>
          hq (hp ▸ congrArg Entry.port (he x hx ho hxe))
      · rw [(settle_keepsFence hleft).hasOrphan, State.hasOrphan_eq_true] at horphan
        obtain ⟨x, hx, hp, ho⟩ := horphan
        rw [(settle_tableOnly _).portState]
        exact (hs e.port).mpr ⟨x, (List.mem_filter.mp hx).1, hp, ho⟩
    dsimp only
    split
    · exact hfenced.of_eq (State.reportEmpty_entries _) (State.reportEmpty_ports _)
    · exact hfenced
  next hnot =>
    have hanswer := answer_moves s e.arrival st d
    refine hs.keeps fun p => .trans ?_ (settle_keepsFence (ha.of_moves (AnsweredAt.requests hanswer)))
    exact AnsweredAt.keepsFence hanswer (answer_tableOnly s _ st d) fun x hx _ ho hxe => hnot (he x hx ho hxe ▸ ho)

/-- An entry of the table, in the arrival order, is the only one at its place. -/
theorem endOperation_of_mem (hs : FenceLaw s) (ha : ArrivalLaw s) {e : Entry} (he : e ∈ s.entries) (st : Status)
    (d : Option Data) : FenceLaw (s.endOperation e st d) :=
  hs.endOperation ha (fun _ hx _ hxe => ha.unique hx he hxe) st d

end FenceLaw

/-- The end of an operation makes no orphan. -/
theorem orphan_mem_of_endOperation {s : State} (ha : ArrivalLaw s) {e x : Entry} {st : Status} {d : Option Data}
    (hx : x ∈ (s.endOperation e st d).entries) (ho : x.isOrphaned = true) : x ∈ s.entries := by
  obtain ⟨u, hu, hend⟩ := endOperation_entries s e st d
  rw [hend] at hx
  have hxu := ((settle_keepsFence (ha.of_moves (AnsweredAt.requests hu))).orphans x rfl ho).mp hx
  obtain ⟨y, hy, hyx⟩ := hu.entries.mem hxu
  cases hyx with
  | answered => cases ho
  | stays => exact hy

end Sys2Proof.Machine
end

section
namespace Sys2Proof.Machine

open Sys2Proof

/-! ### Which commands leave the ports' records -/

@[simp] theorem State.endReserve_ports (s : State) (e : Entry) (l : Line) : (s.endReserve e l).ports = s.ports := by
  rw [s.endReserve_eq]

@[simp] theorem State.faultWrite_ports (s : State) (e : Entry) (l : Line) (c : FaultCause) :
    (s.faultWrite e l c).ports = s.ports :=
  (congrArg State.ports (faultWrite_sansRecords s e l c) :)

@[simp] theorem State.dispatchReservation_ports (s : State) (e : Entry) (l : Line) :
    (s.dispatchReservation e l).ports = s.ports := by
  unfold State.dispatchReservation
  split <;> rfl

@[simp] theorem State.expireReservation_ports (s : State) (h : Holder) : (s.expireReservation h).ports = s.ports := by
  unfold State.expireReservation
  split <;> rfl

@[simp] theorem State.expireRecovery_ports (s : State) (b : BankNo) : (s.expireRecovery b).ports = s.ports := by
  unfold State.expireRecovery
  split <;> rfl

@[simp] theorem State.goOnline_ports (s : State) : s.goOnline.1.ports = s.ports := by
  have hcheck : s.checkOnline.1.ports = s.ports := by
    unfold State.checkOnline
    split <;> rfl
  unfold State.goOnline
  split
  · exact hcheck
  · exact hcheck
  · rfl
  · rfl

@[simp] theorem State.drain_ports (s : State) : s.drain.1.ports = s.ports := by
  unfold State.drain
  split
  · split <;> rfl
  all_goals rfl

@[simp] theorem State.clearFault_ports (s : State) (l : Line) : (s.clearFault l).1.ports = s.ports := by
  unfold State.clearFault
  split <;> rfl

@[simp] theorem State.writeSelector_ports (s : State) (v : Word) : (s.writeSelector v).ports = s.ports := by
  unfold State.writeSelector
  split <;> rfl

@[simp] theorem State.writeOther_ports (s : State) (w : OtherWord) (v : Word) : (s.writeOther w v).ports = s.ports := by
  cases w <;> rfl

@[simp] theorem State.quietFrame_ports (s : State) (f : QuietFrame) : (s.quietFrame f).ports = s.ports := by
  obtain ⟨q, o, m, h, -⟩ := s.quietFrame_eq f
  rw [h]

/-! ## The law of fencing is kept by every command -/

/-- A configuration write leaves a port's state, or sets it by the port's enable (R136). -/
theorem storeConfiguration_portState (s : State) (c : Configuration) (p : Port) :
    (s.storeConfiguration c).ports[p].state = s.ports[p].state ∨
      (s.storeConfiguration c).ports[p].state = stateByEnable c.ports[p] := by
  have hget : (s.storeConfiguration c).ports[p] = s.ports[p].reconfigured s.config.ports[p] c.ports[p] := by
    simp [State.storeConfiguration]
  rw [hget, PortRecord.reconfigured]
  split
  · exact .inl rfl
  · exact .inr rfl

namespace FenceLaw

variable {s t : State}

theorem same (hs : FenceLaw s) (h : SameTable s t) (hp : t.ports = s.ports) : FenceLaw t := hs.of_eq h.entries hp

theorem takeRequest (hs : FenceLaw s) (ha : ArrivalLaw s) (p : Port) (m : Request) : FenceLaw (s.takeRequest p m) := by
  unfold State.takeRequest
  split
  · rw [State.accept_eq]
    exact hs.keeps fun q => (enter_keepsFence p m).trans (settle_keepsFence (ha.enter p m))
  · have hplaced : ∀ r, FenceLaw (s.placeResponse p r) := fun r =>
      hs.keeps fun q => ⟨s.placeResponse_portState p q r, fun _ _ _ => Iff.rfl⟩
    dsimp only
    split
    · exact (hplaced _).of_eq rfl rfl
    · exact hplaced _

theorem takeFromWires (hs : FenceLaw s) (ha : ArrivalLaw s) (p : Port) : FenceLaw (s.takeFromWires p) := by
  unfold State.takeFromWires
  split
  · exact hs
  · split
    · rename_i m rest _ _
      have htaken : FenceLaw { s with wires := s.wires.set p rest } := hs
      exact htaken.takeRequest ha p m
    · exact hs

theorem deliver (hs : FenceLaw s) (ha : ArrivalLaw s) (p : Port) : FenceLaw (s.deliver p) := by
  unfold State.deliver
  split
  · exact hs
  · rename_i r rest _
    have htaken : FenceLaw
        { s.setPort p { s.ports[p] with responses := rest } with delivered := s.delivered ++ [(p, r)] } :=
      hs.keeps fun q => ⟨by simp only [State.setPort_get]; split <;> simp_all, fun _ _ _ => Iff.rfl⟩
    have htakena : ArrivalLaw
        { s.setPort p { s.ports[p] with responses := rest } with delivered := s.delivered ++ [(p, r)] } := ha
    unfold State.fillPlace
    split
    · exact htaken
    · rename_i e he
      obtain ⟨hmem, -, hans⟩ := firstAnswered_mem he
      exact htaken.keeps fun q => placeEntry_keepsFence htakena hmem hans

theorem dispatch (hs : FenceLaw s) (ha : ArrivalLaw s) : FenceLaw s.dispatch := by
  unfold State.dispatch
  split
  · split
    · rename_i k e _ hchoice
      split
      · rename_i l _
        have he := choice_mem hchoice
        have hsame := dispatchReservation_same (s.bind e l k) e l
        have hbound := arrivalLaw_happening.same (arrivalLaw_happening.binds l k he ha) hsame
        exact hs.keeps fun p => ((bind_keepsFence ha he l k).trans (.of_eq hsame.entries (by simp))).trans
          (settle_keepsFence hbound)
      · exact hs
    all_goals exact hs
  · exact hs

theorem completeEntry (hs : FenceLaw s) (ha : ArrivalLaw s) {e : Entry} (he : e ∈ s.entries) (k : Tag) (l : Line)
    (m : Completion) : FenceLaw (s.completeEntry k e l m) := by
  have hframe := completed_frame s k e l m
  have hentries : (s.completed k e l m).entries = s.entries := (congrArg State.entries hframe :)
  have hsame : SameTable s (s.completed k e l m) :=
    .of_eq hentries (congrArg State.config hframe :) (congrArg State.nextArrival hframe :)
      (congrArg State.partState hframe :)
  rw [completeEntry_eq]
  exact (hs.same hsame (congrArg State.ports hframe :)).endOperation_of_mem (arrivalLaw_happening.same ha hsame)
    (hentries ▸ he) _ _

theorem complete (hs : FenceLaw s) (ha : ArrivalLaw s) (m : Completion) : FenceLaw (s.complete m) := by
  unfold State.complete
  split
  · unfold State.completeTag
    split
    · exact hs.of_eq rfl rfl
    · exact hs.of_eq rfl rfl
    · split
      · exact hs.of_eq rfl rfl
      · rename_i e he
        split
        · exact hs.of_eq rfl rfl
        · exact hs.completeEntry ha (List.mem_of_find?_eq_some he) _ _ m
  · exact hs.of_eq rfl rfl

theorem timeOutEntry (hs : FenceLaw s) (ha : ArrivalLaw s) {e : Entry} (he : e ∈ s.entries) (k : Tag) (l : Line) :
    FenceLaw (s.timeOutEntry k e l) := by
  rw [timeOutEntry_eq]
  have hback : SameTable s (s.giveBack k (.quarantined (operationOf e.kind) l e.port) l) := .of_eq rfl rfl rfl rfl
  have hsame := (hback.trans (endReserve_same _ e l)).trans (faultWrite_same _ e l .writeTimeout)
  have hended := (hs.same hsame (by simp [State.giveBack])).endOperation_of_mem (arrivalLaw_happening.same ha hsame)
    (hsame.entries ▸ he) .timeout none
  exact hended.of_eq rfl rfl

theorem timeOut (hs : FenceLaw s) (ha : ArrivalLaw s) (k : Tag) : FenceLaw (s.timeOut k) := by
  unfold State.timeOut
  split
  · exact hs
  · exact hs
  · split
    · exact hs
    · rename_i e he
      split
      · exact hs
      · exact hs.timeOutEntry ha (List.mem_of_find?_eq_some he) k _

/-- The operations end one after another; each end finds only orphans of the table before the abort. -/
theorem linkAbort (hs : FenceLaw s) (ha : ArrivalLaw s) : FenceLaw s.linkAbort := by
  have hsame := abortRecorded_same s
  have hports : s.abortRecorded.ports = s.ports := (congrArg State.ports (abortRecorded_sansRecords s) :)
  have hended := List.foldlRecOn
    (motive := fun u => ArrivalLaw u ∧ FenceLaw u ∧ ∀ x ∈ u.entries, x.isOrphaned = true → x ∈ s.entries)
    s.outstanding (fun u e => u.endOperation e .aborted none)
    ⟨arrivalLaw_happening.same ha hsame, hs.same hsame hports, fun x hx _ => hsame.entries ▸ hx⟩
    fun u ⟨hau, hsu, hold⟩ e he =>
      have he : e ∈ s.entries := (List.mem_filter.mp he).1
      ⟨arrivalLaw_happening.endOperation hau e .aborted none,
        hsu.endOperation hau (fun x hx ho hxe => ha.unique (hold x hx ho) he hxe) .aborted none,
        fun x hx ho => hold x (orphan_mem_of_endOperation hau hx ho) ho⟩
  rw [linkAbort_eq]
  exact hended.2.1.of_eq rfl rfl

theorem signalDown (hs : FenceLaw s) (ha : ArrivalLaw s) : FenceLaw s.signalDown := by
  unfold State.signalDown
  split
  · exact hs.linkAbort ha
  · exact hs

theorem expireGuard (hs : FenceLaw s) (ha : ArrivalLaw s) (g : GuardNo) : FenceLaw (s.expireGuard g) := by
  cases hg : s.guards[g] with
  | free => rwa [expireGuard_of_free hg]
  | active l o i =>
    rw [expireGuard_of_active hg]
    have hposted : ArrivalLaw ((s.setReservation o { s.reservations[o] with failures := 0 }).post .guardExpired
      (some (portOf o)) (.line l)) := ha
    have hreleased := hposted.of_moves (releaseGuard_follows 0 _ g).requests
    have hzeroed : FenceLaw ((s.setReservation o { s.reservations[o] with failures := 0 }).post .guardExpired
      (some (portOf o)) (.line l)) := hs
    exact hzeroed.keeps fun p => (releaseGuard_keepsFence g).trans (settle_keepsFence hreleased)

theorem commandPortReset (hs : FenceLaw s) (ha : ArrivalLaw s) (args : CommandArguments) :
    FenceLaw (s.commandPortReset args).1 := by
  unfold State.commandPortReset
  cases namedPort args with
  | some p => dsimp only; exact hs.resetPort ha p
  | none => exact hs

/-- A configuration write finds no entry, so no port FENCED, and leaves none so (R136, R161). -/
theorem writeConfiguration (hs : FenceLaw s) (ht : TableLaw s) (w : ConfigWord) (v : Word) :
    FenceLaw (s.writeConfiguration w v) := by
  unfold State.writeConfiguration
  split
  · rename_i htakes
    have hnil := ht.entries_eq_nil htakes
    split
    · rename_i c _
      have hstored : FenceLaw (s.storeConfiguration c) := .of_empty hnil fun p => by
        rcases storeConfiguration_portState s c p with h | h <;> rw [h]
        · intro hf
          have := (hs p).mp hf
          simp [hnil] at this
        · exact stateByEnable_ne_fenced _
      exact hstored.of_eq rfl rfl
    · exact hs.of_eq rfl rfl
  · exact hs.of_eq rfl rfl

theorem endCommand (hs : FenceLaw s) (code : Byte) (r : CommandResult) : FenceLaw (s.endCommand code r) :=
  hs.of_eq rfl rfl

theorem exec {c : Instr} (hs : FenceLaw s) (ha : ArrivalLaw s) (hf : TableLaw s) (ht : Machine.exec c s = .next t) :
    FenceLaw t := by
  cases c with
  | porNAsserted => cases ht; exact .of_empty rfl fun p => by simp [State.powerOn, State.reset]
  | porNDeasserted =>
    cases ht
    unfold State.releasePower
    split
    · exact hs.of_eq rfl rfl
    · exact hs
  | prstNAsserted p => exact keeps_unlessHeld ht hs (hs.resetPort ha p)
  | request p m =>
    have hp : FenceLaw (s.present p m) := hs
    have hpa : ArrivalLaw (s.present p m) := ha
    exact keeps_unlessHeld ht hp (hp.takeFromWires hpa p)
  | delivery p => exact keeps_unlessHeld ht hs (hs.deliver ha p)
  | dispatch => exact keeps_unlessHeld ht hs (hs.dispatch ha)
  | completion m => exact keeps_unlessHeld ht hs (hs.complete ha m)
  | completionTimeout k => exact keeps_unlessHeld ht hs (hs.timeOut ha k)
  | linkUp => exact keeps_unlessHeld ht hs (hs.of_eq rfl rfl)
  | linkDown => exact keeps_unlessHeld ht hs (hs.signalDown ha)
  | reservationExpiry k => exact keeps_unlessHeld ht hs (hs.same (expireReservation_same s k) (by simp))
  | guardExpiry g => exact keeps_unlessHeld ht hs (hs.expireGuard ha g)
  | bankRecoveryExpiry b => exact keeps_unlessHeld ht hs (hs.same (expireRecovery_same s b) (by simp))
  | goOnline args => exact keeps_unlessHeld ht hs ((hs.same (goOnline_same s) (by simp)).endCommand _ _)
  | drain args =>
    have hdrain : FenceLaw s.drain.1 := hs.of_eq (by simp) (by simp)
    exact keeps_unlessHeld ht hs (hdrain.endCommand _ _)
  | fullReset args =>
    have hreset : FenceLaw s.fullReset := .of_empty rfl fun p => by
      simp [State.fullReset, resetPorts, stateByEnable_ne_fenced]
    exact keeps_unlessHeld ht hs (hreset.endCommand _ _)
  | portReset args => exact keeps_unlessHeld ht hs ((hs.commandPortReset ha args).endCommand _ _)
  | linkReset args =>
    have hsent : FenceLaw (s.send .linkReset) := hs
    have hsenta : ArrivalLaw (s.send .linkReset) := ha
    exact keeps_unlessHeld ht hs ((hsent.signalDown hsenta).endCommand _ _)
  | clearFault args => exact keeps_unlessHeld ht hs ((hs.same (clearFault_same s _) (by simp)).endCommand _ _)
  | clearAllFaults args => exact keeps_unlessHeld ht hs (hs.of_eq rfl rfl)
  | unknownCommand code args =>
    simp only [Machine.exec, execUnknownCommand] at ht
    split at ht
    · exact keeps_unlessHeld ht hs (hs.endCommand _ _)
    · cases ht
  | configurationWrite w v => exact keeps_unlessHeld ht hs (hs.writeConfiguration hf w v)
  | noticeMaskWrite v => exact keeps_unlessHeld ht hs (hs.of_eq rfl rfl)
  | readOutSelectorWrite v => exact keeps_unlessHeld ht hs (hs.same (writeSelector_same s v) (by simp))
  | noticeHeadRead n => exact keeps_unlessHeld ht hs (hs.same (readFrame_same s 16 n) (s.quietFrame_ports (.read 16 n)))
  | noticeStatusRead n =>
    exact keeps_unlessHeld ht hs (hs.same (readFrame_same s 18 n) (s.quietFrame_ports (.read 18 n)))
  | registerWrite w v => exact keeps_unlessHeld ht hs (hs.same (writeOther_same s w v) (by simp))
  | badAddress op address =>
    simp only [Machine.exec, execBadAddress] at ht
    split at ht
    · exact keeps_unlessHeld ht hs (hs.of_eq rfl rfl)
    · cases ht

theorem idle (hs : FenceLaw s) (ha : ArrivalLaw s) : FenceLaw s.idle := by
  refine keeps_unlessHeld rfl hs ?_
  split
  · exact hs.takeFromWires ha _
  · exact hs

theorem step (hs : FenceLaw s) (ha : ArrivalLaw s) (hf : TableLaw s) (ht : Machine.step s = .next t) : FenceLaw t := by
  unfold Machine.step at ht
  split at ht
  · rename_i c rest _
    have hrest : FenceLaw { s with pending := rest } := hs
    exact hrest.exec ha hf ht
  · rcases s.nextFrame_cases with ⟨f, rest, -, -, hnext⟩ | ⟨-, hnext⟩ <;> rw [hnext] at ht
    · have hrest : FenceLaw { s with frames := rest } := hs
      cases hd : decodeFrame f with
      | command c => rw [hd] at ht; exact hrest.exec ha hf ht
      | quiet q => rw [hd] at ht; cases ht; exact hrest.same (quietFrame_same _ q) (by simp)
    · cases ht; exact hs.idle ha

end FenceLaw

/-- Settles O60: a port becomes FENCED by its reset alone, which leaves it so only with an orphan,
and an orphan goes by the end of its operation alone, which makes the end of fencing at its port. -/
theorem stepKeepsFenceLaw : Obligations.StepKeepsFenceLaw := by
  rintro s t ⟨ha, hk, hf, htags, hs⟩ hst
  obtain ⟨ha', hk'⟩ := kindLaw_happening.everyStepKeeps s t ⟨ha, hk⟩ hst
  exact ⟨ha', hk', tableLaw_happening.everyStepKeeps s t hf hst,
    (tagLaw_iff t).mpr ((step_moves ha hk htags hst).tagsBound ha.distinct ((tagLaw_iff s).mp htags)),
    hs.step ha hf hst⟩

end Sys2Proof.Machine
end

section
namespace Sys2Proof.Machine

open Sys2Proof

/-! ## The ports' commands while POR_n is not asserted (R139, R145, R146) -/

section Released

variable {s : State} (hpor : s.porAsserted = false)

include hpor

theorem exec_request (p : Port) (m : Request) : exec (.request p m) s = .next ((s.present p m).takeFromWires p) :=
  congrArg Host.Outcome.next (State.unlessHeld_of_released (s := s.present p m) hpor _)

theorem exec_delivery (p : Port) : exec (.delivery p) s = .next (s.deliver p) :=
  congrArg Host.Outcome.next (State.unlessHeld_of_released hpor _)

theorem exec_prstNAsserted (p : Port) : exec (.prstNAsserted p) s = .next (s.resetPort p) :=
  congrArg Host.Outcome.next (State.unlessHeld_of_released hpor _)

theorem exec_portReset (args : CommandArguments) :
    exec (.portReset args) s = .next ((s.commandPortReset args).1.endCommand 4 (s.commandPortReset args).2) :=
  congrArg Host.Outcome.next (State.unlessHeld_of_released hpor _)

end Released

/-! ## Requests at the wires (R139) -/

theorem State.hasPlace_iff (s : State) (p : Port) : s.hasPlace p = true ↔ s.ports[p].responses.length < 8 :=
  decide_eq_true_iff

/-- A response queue without a free place holds the request at the wires. -/
theorem takeFromWires_of_full {s : State} {p : Port} (h : 8 ≤ s.ports[p].responses.length) : s.takeFromWires p = s := by
  unfold State.takeFromWires
  split
  · rfl
  · exact if_neg fun hfree => Nat.not_lt.mpr h ((s.hasPlace_iff p).mp hfree)

theorem takeFromWires_of_room {s : State} {p : Port} {m : Request} {rest : List Request} (hw : s.wires[p] = m :: rest)
    (h : s.ports[p].responses.length < 8) :
    s.takeFromWires p = State.takeRequest { s with wires := s.wires.set p rest } p m := by
  simp only [State.takeFromWires, hw, (s.hasPlace_iff p).mpr h, if_true]

/-- With nothing waiting at the wires and a free place, a request presented is taken at once. -/
theorem exec_request_of_room {s : State} {p : Port} (hpor : s.porAsserted = false) (hw : s.wires[p] = [])
    (h : s.ports[p].responses.length < 8) (m : Request) : exec (.request p m) s = .next (s.takeRequest p m) := by
  have hpresented : (s.present p m).wires[p] = [m] := by simp [State.present, hw]
  have hback : { s.present p m with wires := (s.present p m).wires.set p [] } = s := by
    have hwires : (s.present p m).wires.set p [] = s.wires := by
      simp only [State.present, Vector.set_set]
      rw [← hw]
      exact Vector.set_getElem_self _
    rw [hwires]
    rfl
  rw [exec_request hpor, takeFromWires_of_room hpresented h, hback]

/-- Settles O9: the request is presented, and a full queue takes nothing. -/
theorem fullResponseQueueHoldsTheRequest : Obligations.FullResponseQueueHoldsTheRequest := by
  intro s p m hpor hfull
  rw [exec_request hpor, takeFromWires_of_full (s := s.present p m) hfull]
  rfl

/-! ## The arrival checks (R140 to R143) -/

theorem malformed_iff (m : Request) :
    malformed m = true ↔ (m.mask.isSome ∧ m.kind ≠ .write) ∨ (m.kind = .barrier ∧ m.line.isSome) ∨
      (m.kind ≠ .barrier ∧ m.line = none) ∨ m.context = 2 ∨ m.context = 3 := by
  have hcontext : ∀ c : BitVec 2, 2 ≤ c.toNat ↔ c = 2 ∨ c = 3 := by decide
  simp [malformed, hcontext, or_assoc]

theorem outOfRange_eq (c : Configuration) (m : Request) :
    outOfRange c m = m.line.any fun l => 2 ^ c.memorySizeLog2 / 64 ≤ l.toNat := by
  unfold outOfRange
  cases m.line <;> rfl

theorem State.holdsTag_iff (s : State) (p : Port) (k : PortTag) :
    s.holdsTag p k = true ↔ ∃ e ∈ s.entries, e.port = p ∧ e.portTag = k := by
  simp [State.holdsTag]

/-- The guaranteed reserve as a sum over the ports (R143). -/
theorem State.guaranteedReserve_eq (s : State) (p : Port) :
    s.guaranteedReserve p = ∑ q : Port,
      if q ≠ p ∧ s.config.ports[q].enable = true ∧ s.ports[q].state = .active then 2 - s.entryCount q else 0 := by
  have hreserve : ∀ q : Port,
      (if q ≠ p ∧ s.config.ports[q].enable = true ∧ s.ports[q].state = .active then 2 - s.entryCount q else 0) =
        if (q != p) = true then s.reserveOf q else 0 := fun q => by
    simp only [State.reserveOf, Config.reservePerPort, bne_iff_ne, ite_and]
  simp only [hreserve]
  have hothers : allPorts.filter (fun q => q != p) = (List.finRange 6).filter (fun q => decide ((q != p) = true)) :=
    List.filter_congr fun q _ => Bool.decide_eq_true.symm
  rw [Fin.sum_univ_def, List.sum_map_ite, State.guaranteedReserve, hothers]
  simp

theorem State.quotaForbids_iff (s : State) (p : Port) :
    s.quotaForbids p = true ↔ s.config.ports[p].quota ≤ s.entryCount p ∨ 64 < s.entries.length + 1 + ∑ q : Port,
      if q ≠ p ∧ s.config.ports[q].enable = true ∧ s.ports[q].state = .active then 2 - s.entryCount q else 0 := by
  rw [State.quotaForbids, Bool.or_eq_true, decide_eq_true_iff, decide_eq_true_iff, s.guaranteedReserve_eq]
  rfl

/-- The seven arrival checks, in the fields they look at. -/
theorem State.arrivalCheck_eq (s : State) (p : Port) (m : Request) :
    s.arrivalCheck p m =
      if s.ports[p].state = .disabled then some (.refused, .portDisabled)
      else if s.ports[p].state = .fenced then some (.retry, .portFenced)
      else if s.partState ≠ .online then some (.retry, .notOnline)
      else if (m.mask.isSome ∧ m.kind ≠ .write) ∨ (m.kind = .barrier ∧ m.line.isSome) ∨
        (m.kind ≠ .barrier ∧ m.line = none) ∨ m.context = 2 ∨ m.context = 3 then some (.refused, .badForm)
      else if m.line.any (fun l => 2 ^ s.config.memorySizeLog2 / 64 ≤ l.toNat) = true then some (.refused, .outOfRange)
      else if ∃ e ∈ s.entries, e.port = p ∧ e.portTag = m.portTag then some (.refused, .tagInUse)
      else if s.config.ports[p].quota ≤ s.entryCount p ∨
        64 < s.entries.length + 1 + ∑ q : Port,
            (if q ≠ p ∧ s.config.ports[q].enable = true ∧ s.ports[q].state = .active then 2 - s.entryCount q else 0)
        then some (.retry, .tableFull)
      else none := by
  simp only [State.arrivalCheck, malformed_iff, outOfRange_eq, s.holdsTag_iff, s.quotaForbids_iff]

theorem takeRequest_of_answered {s : State} {p : Port} {m : Request} {st : Status} {why : Reason}
    (h : s.arrivalCheck p m = some (st, why)) :
    s.takeRequest p m =
      { s with
        ports := s.ports.set p
          { s.ports[p] with responses := s.ports[p].responses ++ [⟨m.portTag, st, some why, none, true⟩] }
        notices :=
          if why = .tagInUse then s.notices.post .tagInUse (some p) (.portTag m.portTag) else s.notices } := by
  simp only [State.takeRequest, h]
  split <;> rfl

theorem takeRequest_of_accepted {s : State} {p : Port} {m : Request} (h : s.arrivalCheck p m = none) :
    s.takeRequest p m = (s.enter p m).settle := by
  simp only [State.takeRequest, h, State.accept_eq]

/-- Settles O7: the statement's chain is that of the arrival checks, and the answer is placed at once. -/
theorem arrivalChecksAnswerInOrder : Obligations.ArrivalChecksAnswerInOrder := by
  intro s p m st why hpor hw hroom hcheck
  rw [← s.arrivalCheck_eq] at hcheck
  rw [exec_request_of_room hpor hw hroom, takeRequest_of_answered hcheck]

/-! ## Acceptance (R2, R8, R13, R15, R16, R55, R144) -/

theorem isDeferrable_iff (k : RequestKind) :
    isDeferrable k = true ↔ k = .write ∨ k = .writeConditional ∨ k = .readReserve := by
  cases k <;> decide

theorem keptData_eq (m : Request) :
    keptData m = if m.kind = .write ∨ m.kind = .writeConditional then some m.data else none := by
  unfold keptData
  cases m.kind <;> rfl

theorem GuardRecord.defers_iff (r : GuardRecord) (l : Line) (h : Holder) :
    (r.guards l && !r.ownedBy h) = true ↔ ∃ o i, r = .active l o i ∧ o ≠ h := by
  cases r <;> simp [GuardRecord.guards, GuardRecord.ownedBy]

/-- A guard defers a request on its line, of a kind that is deferred, of another holder than its owner (R55). -/
theorem State.deferringGuard_eq_some {s : State} {p : Port} {m : Request} {g : GuardNo}
    (h : s.deferringGuard p m = some g) :
    ∃ l o i, m.line = some l ∧ s.guards[g] = .active l o i ∧ o ≠ holderOf p (validContext m) ∧
      isDeferrable m.kind = true := by
  unfold State.deferringGuard at h
  split at h
  · cases h
  · split at h
    · have hfound := List.find?_some h
      obtain ⟨o, i, hg, ho⟩ := (GuardRecord.defers_iff _ _ _).mp hfound
      exact ⟨_, o, i, ‹_›, hg, ho, ‹_›⟩
    · cases h

theorem State.deferringGuard_eq_none {s : State} {p : Port} {m : Request} (h : s.deferringGuard p m = none)
    {g : GuardNo} {l : Line} {o : Holder} {i : Nat} (hl : m.line = some l) (hg : s.guards[g] = .active l o i) :
    o = holderOf p (validContext m) ∨ isDeferrable m.kind = false := by
  by_contra hnot
  obtain ⟨ho, hk⟩ := not_or.mp hnot
  simp only [State.deferringGuard, hl, Bool.of_not_eq_false hk, if_true, List.find?_eq_none] at h
  exact h g (mem_allGuards g) ((GuardRecord.defers_iff _ _ _).mpr ⟨o, i, hg, ho⟩)

theorem isDeferrable_eq_false_iff (k : RequestKind) : isDeferrable k = false ↔ k = .read ∨ k = .barrier := by
  cases k <;> decide

/-- Settles O8: the entry is that of the acceptance, in the state that the guards and the hold causes give it. -/
theorem acceptedRequestBecomesAnEntry : Obligations.AcceptedRequestBecomesAnEntry := by
  intro s p m hpor hw hroom hactive honline hmask hline hcontext hrange htag hquota hreserve
  have hcheck : s.arrivalCheck p m = none := by
    have hform : ¬ ((m.mask.isSome ∧ m.kind ≠ .write) ∨ (m.kind = .barrier ∧ m.line.isSome) ∨
        (m.kind ≠ .barrier ∧ m.line = none) ∨ m.context = 2 ∨ m.context = 3) := by
      rw [Option.isSome_iff_ne_none, Option.isSome_iff_ne_none, ne_eq m.line, hline]
      rcases hmask with h | h <;> rcases hcontext with h' | h' <;> simp [h, h']
    have hin : ¬ m.line.any (fun l => 2 ^ s.config.memorySizeLog2 / 64 ≤ l.toNat) = true := by
      rw [Option.any_eq_true]
      rintro ⟨l, hl, hge⟩
      exact Nat.not_le.mpr (hrange l hl) (of_decide_eq_true hge)
    have hfree : ¬ ∃ e ∈ s.entries, e.port = p ∧ e.portTag = m.portTag := fun ⟨e, he, hsame⟩ => htag e he hsame
    rw [s.arrivalCheck_eq, hactive, if_neg (by decide), if_neg (by decide), if_neg (not_not.mpr honline),
      if_neg hform, if_neg hin, if_neg hfree, if_neg (by omega)]
  have hlow : m.context.toNat < 2 := by rcases hcontext with h | h <;> simp [h]
  refine ⟨s.enter p m, s.entrant p m, ?_, rfl, rfl, rfl, Nat.mod_eq_of_lt hlow, rfl, rfl, rfl, keptData_eq m,
    rfl, rfl, ?_⟩
  · rw [exec_request_of_room hpor hw hroom, takeRequest_of_accepted hcheck]
  have hstate : (s.entrant p m).state = s.entryStateAt p m := rfl
  have hctx : (s.entrant p m).context = validContext m := rfl
  rw [hstate, hctx]
  cases hguard : s.deferringGuard p m with
  | some g =>
    obtain ⟨l, o, i, hl, hg, ho, hk⟩ := State.deferringGuard_eq_some hguard
    exact .inl ⟨g, l, o, i, hl, hg, ho, (isDeferrable_iff _).mp hk, by simp only [State.entryStateAt, hguard]⟩
  | none =>
    refine .inr ⟨fun g l o i hl hg => ?_, fun hk => ?_, fun hk => ?_⟩
    · exact (State.deferringGuard_eq_none hguard hl hg).imp_right (isDeferrable_eq_false_iff _).mp
    · simp only [State.entryStateAt, hguard, hk, if_true]
    · refine ⟨_, _, by simp only [State.entryStateAt, hguard, hk, if_false]; rfl, ?_, ?_⟩
      · exact s.portOrderHolds_iff (s.newEntry p m)
      · exact s.barrierHolds_iff (s.newEntry p m)

/-! ## A step with no command waiting (R139, R165; log entries 1, 7, 8) -/

theorem State.canTake_eq_false_iff (s : State) (p : Port) :
    s.canTake p = false ↔ s.wires[p] = [] ∨ 8 ≤ s.ports[p].responses.length := by
  rw [Bool.eq_false_iff, ne_eq, State.canTake, Bool.and_eq_true, s.hasPlace_iff, ← Nat.not_lt, not_and_or]
  simp

theorem State.canTake_of_room {s : State} {p : Port} {m : Request} {rest : List Request} (hw : s.wires[p] = m :: rest)
    (h : s.ports[p].responses.length < 8) : s.canTake p = true := by
  simp [State.canTake, hw, (s.hasPlace_iff p).mpr h]

/-- The first number found is the lowest that answers to q. -/
theorem find?_finRange_of_lowest {n : Nat} {q : Fin n → Bool} {i : Fin n} (hi : q i = true)
    (hlow : ∀ k, k < i → q k = false) : (List.finRange n).find? q = some i := by
  rw [List.find?_eq_some_iff_getElem]
  refine ⟨hi, i.val, by simp, by simp, fun j hj => ?_⟩
  simpa using hlow ⟨j, hj.trans i.isLt⟩ hj

theorem idle_of_held {s : State} (h : s.porAsserted = true) : s.idle = s := if_pos h

/-- No port can take what waits at its wires, if anything does. -/
theorem idle_of_none {s : State} (hpor : s.porAsserted = false) (h : ∀ p, s.canTake p = false) : s.idle = s := by
  have hnone : allPorts.find? s.canTake = none := List.find?_eq_none.mpr fun p _ => by simp [h p]
  simp only [State.idle, State.unlessHeld_of_released hpor, hnone]

theorem idle_of_lowest {s : State} (hpor : s.porAsserted = false) {p : Port} (hp : s.canTake p = true)
    (hlow : ∀ q, q < p → s.canTake q = false) : s.idle = s.takeFromWires p := by
  have hfound : allPorts.find? s.canTake = some p := find?_finRange_of_lowest hp hlow
  simp only [State.idle, State.unlessHeld_of_released hpor, hfound]

/-- With no command and no frame to take, a step does what the idle part does. -/
theorem step_of_no_frame {s : State} (hpending : s.pending = []) (h : s.porAsserted = true ∨ s.frames = []) :
    step s = .next s.idle := by
  have hnone : s.nextFrame = none := by
    rcases s.nextFrame_cases with ⟨f, rest, hpor, hf, -⟩ | ⟨-, hnone⟩
    · simp [hpor, hf] at h
    · exact hnone
  simp only [step, hpending, hnone]

theorem nextFrame_of_cons {s : State} (hpor : s.porAsserted = false) {f : List Byte} {rest : List (List Byte)}
    (hf : s.frames = f :: rest) : s.nextFrame = some (decodeFrame f, { s with frames := rest }) := by
  simp only [State.nextFrame, hpor, hf]

/-- Settles O2, by what waits: a frame, a request that a port can take, or neither. -/
theorem emptyQueueIdlesOrTakesWhatWaits : Obligations.EmptyQueueIdlesOrTakesWhatWaits := by
  refine fun s hpending => ⟨fun hheld => ?_, fun hpor => ⟨fun f rest hf => ⟨fun c hc => ?_, fun q hq => ?_⟩,
    fun hnone => ⟨fun hports => ?_, fun p m rest hw hroom hlow => ?_⟩⟩⟩
  · rw [step_of_no_frame hpending (.inl hheld), idle_of_held hheld]
  · simp only [step, hpending, nextFrame_of_cons hpor hf, hc]
  · simp only [step, hpending, nextFrame_of_cons hpor hf, hq]
  · rw [step_of_no_frame hpending (.inr hnone), idle_of_none hpor fun p => (s.canTake_eq_false_iff p).mpr (hports p)]
  · rw [step_of_no_frame hpending (.inr hnone), idle_of_lowest hpor (State.canTake_of_room hw hroom) fun q hq =>
      (s.canTake_eq_false_iff q).mpr (hlow q hq), takeFromWires_of_room hw hroom]

/-! ## Deliveries (R20, R145) -/

/-- The part once the oldest response of port p has left, before its place is filled. -/
def State.delivering (s : State) (p : Port) (r : Response) (rest : List Response) : State :=
  { s with ports := s.ports.set p ⟨s.ports[p].state, rest⟩, delivered := s.delivered ++ [(p, r)] }

theorem deliver_of_nil {s : State} {p : Port} (h : s.ports[p].responses = []) : s.deliver p = s := by
  simp only [State.deliver, h]

theorem deliver_of_cons {s : State} {p : Port} {r : Response} {rest : List Response}
    (h : s.ports[p].responses = r :: rest) : s.deliver p = (s.delivering p r rest).fillPlace p := by
  simp only [State.deliver, h]
  rfl

theorem fillPlace_of_none {s : State} {p : Port} (h : ∀ e ∈ s.entries, e.port = p → e.isAnswered = false) :
    s.fillPlace p = s := by
  unfold State.fillPlace
  split
  · rfl
  · rename_i e he
    obtain ⟨hmem, hp, hans⟩ := firstAnswered_mem he
    rw [h e hmem hp] at hans
    cases hans

/-- Of the entries that wait for a place at port p, one was answered first, and it takes the place (R20). -/
theorem firstAnswered_of_waiting {s : State} {p : Port} (h : ∃ e ∈ s.entries, e.port = p ∧ e.isAnswered = true) :
    ∃ e, s.firstAnswered p = some e ∧
      ∀ x ∈ s.entries, x.port = p → x.isAnswered = true → e.answerPlace ≤ x.answerPlace := by
  have hmem : ∀ x, x ∈ s.entries.filter (fun e => e.port == p && e.isAnswered) ↔
      x ∈ s.entries ∧ x.port = p ∧ x.isAnswered = true := fun x => by simp
  cases hf : s.firstAnswered p with
  | some e =>
    have hfirst := List.find?_some hf
    exact ⟨e, rfl, fun x hx hp hans => of_decide_eq_true (List.all_eq_true.mp hfirst x ((hmem x).mpr ⟨hx, hp, hans⟩))⟩
  | none =>
    obtain ⟨e, he⟩ := h
    obtain ⟨first, hfirst, hle⟩ := (s.entries.filter fun e => e.port == p && e.isAnswered).toFinset.exists_min_image
      Entry.answerPlace ⟨e, List.mem_toFinset.mpr ((hmem e).mpr he)⟩
    refine (List.find?_eq_none.mp hf first (List.mem_toFinset.mp hfirst) ?_).elim
    exact List.all_eq_true.mpr fun x hx => decide_eq_true (hle x (List.mem_toFinset.mpr hx))

theorem fillPlace_of_firstAnswered {s : State} {p : Port} {e : Entry} (h : s.firstAnswered p = some e) :
    s.fillPlace p = s.placeEntry e := by
  simp only [State.fillPlace, h]

/-- The part once the oldest response of e's port has left and that of e, answered with st, has
taken the freed place. -/
def State.refilled (s : State) (e : Entry) (st : Status) (r : Response) (rest : List Response) : State :=
  { s with
    ports := s.ports.set e.port ⟨s.ports[e.port].state, rest ++ [e.response st]⟩
    delivered := s.delivered ++ [(e.port, r)]
    entries := s.entries.filter fun x => x.arrival != e.arrival }

theorem placeResponse_delivering (s : State) (e : Entry) (st : Status) (r : Response) (rest : List Response) :
    ((s.delivering e.port r rest).placeResponse e.port (e.response st)).setEntries
      (s.entries.filter fun x => x.arrival != e.arrival) = s.refilled e st r rest := by
  simp [State.placeResponse, State.setPort, State.setEntries, State.delivering, State.refilled, Vector.set_set]

/-- The table's report after the loss of an entry: a DRAINING part becomes QUIESCED with the last one (R25, R158). -/
theorem reportEmpty_if_emptied (v : State) :
    (v.entries = [] ∧ v.partState = .draining ∧ (if v.entries = [] then v.reportEmpty else v) =
      { v with partState := .quiesced, notices := v.notices.post .drainDone none .none }) ∨
    (¬ (v.entries = [] ∧ v.partState = .draining) ∧ (if v.entries = [] then v.reportEmpty else v) = v) := by
  by_cases hnil : v.entries = []
  · rcases v.reportEmpty_cases with ⟨hdrain, h⟩ | ⟨hdrain, h⟩
    · exact .inl ⟨hnil, hdrain, (if_pos hnil).trans h⟩
    · exact .inr ⟨fun hboth => hdrain hboth.2, (if_pos hnil).trans h⟩
  · exact .inr ⟨fun hboth => hnil hboth.1, if_neg hnil⟩

/-- Settles O10, by what the port's queue holds, and by whether an entry waits for the freed place. -/
theorem deliveryFreesAPlace : Obligations.DeliveryFreesAPlace := by
  refine fun s p hpor => ⟨fun hnil => ?_, fun r rest hcons => ⟨fun hnone => ?_, fun hwaits => ?_⟩⟩
  · rw [exec_delivery hpor, deliver_of_nil hnil]
  · rw [exec_delivery hpor, deliver_of_cons hcons, fillPlace_of_none (s := s.delivering p r rest) hnone]
    rfl
  · obtain ⟨e, hfirst, hle⟩ := firstAnswered_of_waiting (s := s.delivering p r rest) hwaits
    obtain ⟨hmem, rfl, hans⟩ := firstAnswered_mem hfirst
    obtain ⟨st, n, hstate⟩ := e.isAnswered_iff.mp hans
    have hplace : e.answerPlace = n := by simp [Entry.answerPlace, hstate]
    have hdeliver : s.deliver e.port =
        if (s.refilled e st r rest).entries = [] then (s.refilled e st r rest).reportEmpty else s.refilled e st r rest := by
      rw [deliver_of_cons hcons, fillPlace_of_firstAnswered hfirst,
        placeEntry_eq hmem hstate, ← placeResponse_delivering]
      rfl
    refine ⟨e, hmem, st, n, s.deliver e.port, rfl, hstate, fun x hx hp hx' => hplace ▸ hle x hx hp hx',
      exec_delivery hpor _, ?_⟩
    rw [hdeliver]
    rcases reportEmpty_if_emptied (s.refilled e st r rest) with ⟨hnil, hdrain, h⟩ | ⟨hnot, h⟩ <;> rw [h]
    · exact ⟨rfl, rfl, rfl, rfl, fun hkept => (hkept.elim (· hnil) (· hdrain)).elim, fun _ _ => ⟨rfl, rfl⟩⟩
    · exact ⟨rfl, rfl, rfl, rfl, fun _ => ⟨rfl, rfl⟩, fun hnil hdrain => (hnot ⟨hnil, hdrain⟩).elim⟩

/-! ## The PORT_RESET command (R146, R169) -/

theorem portArgument_eq (args : CommandArguments) : portArgument args = (args.extractLsb' 16 3).toNat := by
  rw [BitVec.extractLsb'_toNat, Nat.shiftRight_eq_div_pow]
  rfl

theorem namedPort_of_eq {args : CommandArguments} {p : Port} (h : (args.extractLsb' 16 3).toNat = p.val) :
    namedPort args = some p := by
  rw [← portArgument_eq] at h
  have hlt : portArgument args < 6 := h ▸ p.isLt
  rw [namedPort, dif_pos hlt]
  exact congrArg some (Fin.ext h)

theorem namedPort_of_le {args : CommandArguments} (h : 6 ≤ (args.extractLsb' 16 3).toNat) : namedPort args = none := by
  rw [← portArgument_eq] at h
  exact dif_neg (Nat.not_lt.mpr h)

/-- Settles O37, by whether the argument names a port; the reset leaves the link interface's own words. -/
theorem portResetCommandNamesItsPort : Obligations.PortResetCommandNamesItsPort := by
  intro s args hpor
  have hout : ∀ p, (s.resetPort p).frameOut = s.frameOut := fun p => (congrArg State.frameOut (resetPort_frame s p) :)
  have hmgmt : ∀ p, (s.resetPort p).mgmt = s.mgmt := fun p => (congrArg State.mgmt (resetPort_frame s p) :)
  refine ⟨fun p hp => ⟨s.resetPort p, exec_prstNAsserted hpor p, ?_⟩, fun hnone => ?_⟩
  · rw [exec_portReset hpor, State.commandPortReset, namedPort_of_eq hp]
    simp only [State.endCommand_eq, hout, hmgmt]
  · rw [exec_portReset hpor, State.commandPortReset, namedPort_of_le hnone]
    rfl

end Sys2Proof.Machine
end

section
namespace Sys2Proof.Machine

open Sys2Proof

/-! ## Checks of other ports' entries

A check works on the queue, the records and the guards of its own entry's port; of another port
it can only free guards. -/

/-- From s to t the responses and the reservation records of port p stay, and its holders come to own no guard. -/
structure SparesPort (p : Port) (s t : State) : Prop where
  responses : t.ports[p].responses = s.ports[p].responses
  reservations : ∀ h : Holder, portOf h = p → t.reservations[h] = s.reservations[h]
  guards : ∀ g : GuardNo, t.guards[g].ownedByPort p = true → s.guards[g].ownedByPort p = true

/-- No entry at place n of the arrival order is of port p. -/
def NoneAt (p : Port) (n : Nat) (s : State) : Prop := ∀ x ∈ s.entries, x.arrival = n → x.port ≠ p

theorem NoneAt.of_moves {p : Port} {n : Nat} {s t : State} (h : TableMoves (Each Entry.SameRequest) s t)
    (hs : NoneAt p n s) : NoneAt p n t := by
  intro y hy hn
  obtain ⟨x, hx, hxy⟩ := h.entries.mem hy
  have hsame := hxy y rfl
  rw [hsame.port]
  exact hs x hx (hsame.arrival ▸ hn)

theorem portOf_holderOf (p : Port) (c : Context) : portOf (holderOf p c) = p := by
  simp only [portOf, holderOf, Fin.ext_iff]
  omega

@[simp] theorem GuardRecord.ownedByPort_free (p : Port) : GuardRecord.free.ownedByPort p = false := rfl

namespace SparesPort

variable {p : Port} {s t u : State}

theorem of_eq (hp : t.ports = s.ports) (hr : t.reservations = s.reservations) (hg : t.guards = s.guards) :
    SparesPort p s t :=
  ⟨by rw [hp], fun _ _ => by rw [hr], fun _ h => by rwa [hg] at h⟩

theorem refl (s : State) : SparesPort p s s := of_eq rfl rfl rfl

theorem trans (h : SparesPort p s t) (k : SparesPort p t u) : SparesPort p s u :=
  ⟨k.responses.trans h.responses, fun g hg => (k.reservations g hg).trans (h.reservations g hg),
    fun g hg => h.guards g (k.guards g hg)⟩

theorem setReservation {h : Holder} (hp : portOf h ≠ p) (r : Reservation) : SparesPort p s (s.setReservation h r) where
  responses := rfl
  reservations k hk := by
    rw [State.setReservation_get, if_neg]
    rintro rfl
    exact hp hk
  guards _ hg := hg

theorem setGuard {g : GuardNo} {r : GuardRecord} (hr : r.ownedByPort p = false) : SparesPort p s (s.setGuard g r) where
  responses := rfl
  reservations _ _ := rfl
  guards k hk := by
    rw [State.setGuard_get] at hk
    split at hk
    · rw [hr] at hk; cases hk
    · exact hk

theorem releaseGuard (g : GuardNo) : SparesPort p s (s.releaseGuard g) :=
  have hfreed : SparesPort p s (s.setGuard g .free) := setGuard (GuardRecord.ownedByPort_free p)
  hfreed.trans (of_eq rfl rfl rfl)

theorem escalate {h : Holder} (hp : portOf h ≠ p) (l : Line) : SparesPort p s (s.escalate h l) := by
  rcases s.escalate_cases h l with ⟨why, he⟩ | ⟨g, -, -, he⟩ <;> rw [he]
  · exact of_eq rfl rfl rfl
  · refine trans (setGuard (g := g) ?_) (of_eq rfl rfl rfl)
    simpa [GuardRecord.ownedByPort] using hp

theorem makeReady (e : Entry) : SparesPort p s (s.makeReady e) := of_eq rfl rfl rfl

theorem placeEntry {e : Entry} (he : e.port ≠ p) : SparesPort p s (s.placeEntry e) := by
  unfold State.placeEntry
  split
  · rename_i st _ _
    have hplaced : SparesPort p s (s.placeResponse e.port (e.response st)) :=
      ⟨by rw [State.placeResponse_get, if_neg he], fun _ _ => rfl, fun _ hg => hg⟩
    exact hplaced.trans (of_eq (by simp) (by simp) (by simp))
  all_goals exact refl s

theorem placeIfRoom {n : Nat} (hn : NoneAt p n s) : SparesPort p s (s.placeIfRoom n) := by
  unfold State.placeIfRoom
  split
  · exact refl s
  · rename_i e he
    split
    · exact placeEntry (hn e (List.mem_of_find?_eq_some he) (by simpa using List.find?_some he))
    · exact refl s

theorem answer {n : Nat} (hn : NoneAt p n s) (st : Status) (d : Option Data) : SparesPort p s (s.answer n st d) :=
  trans (t := s.markAnswered n st d) (of_eq rfl rfl rfl)
    (placeIfRoom (hn.of_moves (AnsweredAt.requests (markAnswered_moves s n st d))))

variable {e : Entry} (he : e.port ≠ p)

include he

theorem passJudgement (l : Line) : SparesPort p s (s.passJudgement e l) := by
  have hholder : portOf (holderOf e.port e.context) ≠ p := by rwa [portOf_holderOf]
  cases hown : s.ownGuard (holderOf e.port e.context) l with
  | some g =>
    rw [passJudgement_of_owner hown]
    exact ((setReservation hholder _).trans (releaseGuard g)).trans (makeReady e)
  | none =>
    rw [passJudgement_of_no_guard hown]
    exact (setReservation hholder _).trans (makeReady e)

variable (hn : NoneAt p e.arrival s)

include hn

theorem failAsOwner (g : GuardNo) : SparesPort p s (s.failAsOwner e g) := by
  have hholder : portOf (holderOf e.port e.context) ≠ p := by rwa [portOf_holderOf]
  have hrecord := setReservation (s := s) hholder ⟨s.reservations[holderOf e.port e.context].state.afterFailure, 0⟩
  have hreleased := (releaseGuard_follows 0 (s.setReservation (holderOf e.port e.context)
    ⟨s.reservations[holderOf e.port e.context].state.afterFailure, 0⟩) g).requests
  exact (hrecord.trans (releaseGuard g)).trans (answer (NoneAt.of_moves hreleased hn) .failed none)

theorem failJudgement (l : Line) : SparesPort p s (s.failJudgement e l) := by
  have hholder : portOf (holderOf e.port e.context) ≠ p := by rwa [portOf_holderOf]
  have hfailed : SparesPort p s (s.failed e) :=
    trans (t := s.markAnswered e.arrival .failed none) (of_eq rfl rfl rfl) (setReservation hholder _)
  have hmarked : NoneAt p e.arrival (s.markAnswered e.arrival .failed none) :=
    hn.of_moves (AnsweredAt.requests (markAnswered_moves s e.arrival .failed none))
  have hnone : NoneAt p e.arrival (s.failed e) := hmarked
  rw [failJudgement_eq]
  split
  · have hescalated :=
      (TableFollows.of_same (limit := 0) (escalate_same (s.failed e) (holderOf e.port e.context) l)).requests
    exact (hfailed.trans (escalate hholder l)).trans (placeIfRoom (hnone.of_moves hescalated))
  · exact hfailed.trans (placeIfRoom hnone)

theorem judge (l : Line) : SparesPort p s (s.judge e l) := by
  unfold State.judge
  dsimp only
  split
  · exact passJudgement he l
  · split
    · exact failAsOwner he hn _
    · exact failJudgement he hn l

theorem examine : SparesPort p s (s.examine e) := by
  unfold State.examine
  split
  · exact answer hn _ _
  · split
    · exact answer hn _ _
    · split
      · exact judge he hn _
      · exact makeReady e

end SparesPort

/-- No entry of port p is DEFERRED or HELD. -/
def NoneParked (p : Port) (s : State) : Prop := ∀ x ∈ s.entries, x.port = p → 2 ≤ x.phase

theorem NoneParked.of_moves {limit : Nat} {p : Port} {s t : State} (h : TableMoves (Each (Entry.Keeps limit)) s t)
    (hs : NoneParked p s) : NoneParked p t := by
  intro y hy hp
  obtain ⟨x, hx, hxy⟩ := h.entries.mem hy
  have hkeeps := hxy y rfl
  have hx2 := hs x hx (hkeeps.port ▸ hp)
  by_contra hlow
  have := (hkeeps.parked (by omega)).1
  omega

/-- The checks spare a port that has no entry to be checked. -/
theorem settle_sparesPort {p : Port} {s : State} (ha : ArrivalLaw s) (hs : NoneParked p s) :
    SparesPort p s s.settle := by
  refine (settle_keeps (fun t => ArrivalLaw t ∧ NoneParked p t ∧ SparesPort p s t)
    (fun t ⟨ha, hn, hst⟩ => ⟨ha.releaseCauses, hn.of_moves (releaseCauses_follows 0 t).keeps,
      hst.trans (.of_eq rfl rfl rfl)⟩)
    (fun t e he hd ⟨ha, hn, hst⟩ => ?_) s ⟨ha, hs, .refl s⟩).2.2
  have hport : e.port ≠ p := fun hp => by
    have hphase := hn e he hp
    rw [e.isHeld_iff_phase.mp (State.isHeld_of_isDue hd)] at hphase
    omega
  have hnone : NoneAt p e.arrival t := fun x hx hxe => ha.unique hx he hxe ▸ hport
  exact ⟨ha.examine e, hn.of_moves (limit := 0) ((examine_moves t e).mono fun _ _ _ => State.Examined.keeps),
    hst.trans (.examine hport hnone)⟩

end Sys2Proof.Machine
end

section
namespace Sys2Proof.Machine

open Sys2Proof

/-! ## The release of a port's guards (R61; log entry 13) -/

/-- An entry that rejoins its line queue waits and is unanswered before and after, so no hold cause sees it. -/
theorem releaseGuard_causesNow (s : State) (g : GuardNo) (e : Entry) :
    (s.releaseGuard g).causesNow e = s.causesNow e := by
  have hany : ∀ q : Entry → Bool,
      (∀ x : Entry, x.state = .deferred g → q { x with state := .held (s.causesNow x) } = q x) →
      (s.releaseGuard g).entries.any q = s.entries.any q := by
    intro q hq
    have hentries : (s.releaseGuard g).entries =
        s.entries.map fun x => if x.state = .deferred g then { x with state := .held (s.causesNow x) } else x := rfl
    rw [hentries, List.any_map]
    congr 1
    funext x
    rw [Function.comp_apply]
    split
    · exact hq x ‹_›
    · rfl
  have hpo : (s.releaseGuard g).portOrderHolds e = s.portOrderHolds e :=
    congrArg (s.config.ports[e.port].order == .strict && ·) (hany _ fun x hx => by
      simp [Entry.isOlderAtPort, Entry.isDeferred, Entry.isHeld, hx])
  have hba : (s.releaseGuard g).barrierHolds e = s.barrierHolds e :=
    hany _ fun x hx => by simp [Entry.isOlderAtPort, Entry.isAnswered, hx]
  simp only [State.causesNow, hpo, hba]

/-- What the release of those of the guards gs that p's holders own makes of entry x. -/
def State.rejoined (s : State) (p : Port) (gs : List GuardNo) (x : Entry) : Entry :=
  if ∃ g ∈ gs, x.state = .deferred g ∧ s.guards[g].ownedByPort p = true then
    { x with state := .held (s.causesNow x) }
  else x

theorem rejoined_of_deferred {s : State} {p : Port} {gs : List GuardNo} {x : Entry} {g : GuardNo}
    (hx : x.state = .deferred g)
    (hg : g ∈ gs) (ho : s.guards[g].ownedByPort p = true) :
    s.rejoined p gs x = { x with state := .held (s.causesNow x) } := if_pos ⟨g, hg, hx, ho⟩

theorem rejoined_of_not_deferred {s : State} {p : Port} {gs : List GuardNo} {x : Entry}
    (h : ∀ g ∈ gs, s.guards[g].ownedByPort p = true → x.state ≠ .deferred g) : s.rejoined p gs x = x :=
  if_neg fun ⟨g, hg, hx, ho⟩ => h g hg ho hx

theorem releaseIfOwned_guards (s : State) (p : Port) (g k : GuardNo) :
    (s.releaseIfOwned p g).guards[k] = if g = k ∧ s.guards[k].ownedByPort p = true then .free else s.guards[k] := by
  have hreleased : (s.releaseGuard g).guards[k] = if g = k then .free else s.guards[k] := State.setGuard_get _ g k .free
  unfold State.releaseIfOwned
  split
  · rename_i ho
    rw [hreleased]
    by_cases hgk : g = k
    · subst hgk
      rw [if_pos rfl, if_pos ⟨rfl, ho⟩]
    · rw [if_neg hgk, if_neg fun h => hgk h.1]
  · rename_i ho
    exact (if_neg fun ⟨hgk, hk⟩ => ho (hgk ▸ hk)).symm

theorem releaseIfOwned_causesNow (s : State) (p : Port) (g : GuardNo) (x : Entry) :
    (s.releaseIfOwned p g).causesNow x = s.causesNow x := by
  unfold State.releaseIfOwned
  split
  · exact releaseGuard_causesNow s g x
  · rfl

theorem releaseIfOwned_entries (s : State) (p : Port) (g : GuardNo) :
    (s.releaseIfOwned p g).entries = s.entries.map (s.rejoined p [g]) := by
  unfold State.releaseIfOwned
  split
  · rename_i ho
    refine List.map_congr_left fun x _ => ?_
    split
    · rename_i hx
      exact (rejoined_of_deferred hx (List.mem_singleton_self g) ho).symm
    · rename_i hx
      exact (rejoined_of_not_deferred fun k hk _ => List.mem_singleton.mp hk ▸ hx).symm
  · rename_i ho
    have hstay : s.rejoined p [g] = id := funext fun x => rejoined_of_not_deferred fun k hk hko =>
      (ho (List.mem_singleton.mp hk ▸ hko)).elim
    rw [hstay, List.map_id]

/-- The release of one guard, and then of the others, is the release of them all. -/
theorem rejoined_releaseIfOwned (s : State) (p : Port) (g : GuardNo) (gs : List GuardNo) (x : Entry) :
    (s.releaseIfOwned p g).rejoined p gs (s.rejoined p [g] x) = s.rejoined p (g :: gs) x := by
  by_cases hx : x.state = .deferred g ∧ s.guards[g].ownedByPort p = true
  · obtain ⟨hx, ho⟩ := hx
    rw [rejoined_of_deferred hx (List.mem_singleton_self g) ho, rejoined_of_deferred hx (List.mem_cons_self ..) ho]
    exact rejoined_of_not_deferred fun _ _ _ h => by cases h
  · have hfirst : s.rejoined p [g] x = x := rejoined_of_not_deferred fun k hk ho h => by
      obtain rfl := List.mem_singleton.mp hk
      exact hx ⟨h, ho⟩
    rw [hfirst]
    by_cases hrest : ∃ k ∈ gs, x.state = .deferred k ∧ s.guards[k].ownedByPort p = true
    · obtain ⟨k, hk, hxk, ho⟩ := hrest
      have hne : ¬ (g = k ∧ s.guards[k].ownedByPort p = true) := fun ⟨hgk, _⟩ => by
        subst hgk
        exact hx ⟨hxk, ho⟩
      have ho' : (s.releaseIfOwned p g).guards[k].ownedByPort p = true := by
        rw [releaseIfOwned_guards, if_neg hne]; exact ho
      rw [rejoined_of_deferred hxk hk ho', rejoined_of_deferred hxk (List.mem_cons_of_mem g hk) ho,
        releaseIfOwned_causesNow]
    · rw [rejoined_of_not_deferred, rejoined_of_not_deferred]
      · intro k hk ho hxk
        rcases List.mem_cons.mp hk with rfl | hk
        · exact hx ⟨hxk, ho⟩
        · exact hrest ⟨k, hk, hxk, ho⟩
      · intro k hk ho hxk
        rw [releaseIfOwned_guards] at ho
        split at ho
        · cases ho
        · exact hrest ⟨k, hk, hxk, ho⟩

theorem foldl_releaseIfOwned_guards (p : Port) (gs : List GuardNo) (s : State) (k : GuardNo) :
    (gs.foldl (State.releaseIfOwned p) s).guards[k] =
      if k ∈ gs ∧ s.guards[k].ownedByPort p = true then .free else s.guards[k] := by
  induction gs generalizing s with
  | nil => simp
  | cons g gs ih =>
    rw [List.foldl_cons, ih]
    by_cases hgk : g = k ∧ s.guards[k].ownedByPort p = true
    · have hfree : (s.releaseIfOwned p g).guards[k] = .free := (releaseIfOwned_guards s p g k).trans (if_pos hgk)
      rw [hfree, ite_self, if_pos ⟨hgk.1 ▸ List.mem_cons_self .., hgk.2⟩]
    · have hkept : (s.releaseIfOwned p g).guards[k] = s.guards[k] := (releaseIfOwned_guards s p g k).trans (if_neg hgk)
      rw [hkept]
      refine if_congr (and_congr_left fun ho => ⟨List.mem_cons_of_mem g, fun hk => ?_⟩) rfl rfl
      exact (List.mem_cons.mp hk).resolve_left fun hk => hgk ⟨hk.symm, ho⟩

theorem foldl_releaseIfOwned_entries (p : Port) (gs : List GuardNo) (s : State) :
    (gs.foldl (State.releaseIfOwned p) s).entries = s.entries.map (s.rejoined p gs) := by
  induction gs generalizing s with
  | nil =>
    have hstay : s.rejoined p [] = id := funext fun x => rejoined_of_not_deferred fun k hk => by cases hk
    rw [hstay, List.map_id]
    rfl
  | cons g gs ih =>
    rw [List.foldl_cons, ih, releaseIfOwned_entries, List.map_map]
    exact List.map_congr_left fun x _ => rejoined_releaseIfOwned s p g gs x

/-- Step 5 of a port reset changes guards and entries alone. -/
theorem releaseOwned_frame (s : State) (p : Port) :
    s.releaseOwned p = { s with guards := (s.releaseOwned p).guards, entries := (s.releaseOwned p).entries } :=
  List.foldlRecOn (motive := fun t : State => t = { s with guards := t.guards, entries := t.entries }) allGuards
    (State.releaseIfOwned p) rfl fun t ht g _ => by
      unfold State.releaseIfOwned
      split
      · rw [ht]; rfl
      · exact ht

theorem releaseOwned_guards (s : State) (p : Port) (k : GuardNo) :
    (s.releaseOwned p).guards[k] = if s.guards[k].ownedByPort p then .free else s.guards[k] := by
  rw [State.releaseOwned, foldl_releaseIfOwned_guards]
  simp [mem_allGuards]

theorem releaseOwned_not_owned (s : State) (p : Port) (k : GuardNo) :
    (s.releaseOwned p).guards[k].ownedByPort p = false := by
  rw [releaseOwned_guards]
  split
  · rfl
  · exact Bool.eq_false_iff.mpr ‹_›

theorem releaseOwned_entries (s : State) (p : Port) :
    (s.releaseOwned p).entries = s.entries.map fun x =>
      if ∃ g : GuardNo, x.state = .deferred g ∧ s.guards[g].ownedByPort p = true then
        { x with state := .held ⟨true, s.portOrderHolds x, s.barrierHolds x⟩ }
      else x := by
  rw [State.releaseOwned, foldl_releaseIfOwned_entries]
  refine List.map_congr_left fun x _ => ?_
  simp only [State.rejoined, mem_allGuards, true_and]
  rfl

end Sys2Proof.Machine
end

section
namespace Sys2Proof.Machine

open Sys2Proof

/-! ## Port resets, step by step (R146) -/

theorem orphanPort_noneParked (s : State) (p : Port) : NoneParked p (s.orphanPort p) := by
  intro x hx hp
  rw [State.orphanPort, State.removeEntries_entries, List.mem_filter] at hx
  have ho : x.isOrphaned = true := by simpa [hp] using hx.2
  rw [Entry.phase_of_orphaned ho]
  decide

theorem Entry.orphan_isOrphaned {e : Entry} {p : Port} (hp : e.port = p) :
    (e.orphan p).isOrphaned = (e.isIssued || e.isOrphaned) := by
  rw [Entry.orphan, if_pos hp]
  unfold Entry.isOrphaned Entry.isIssued
  cases h : e.state <;> simp [h]

/-- The entries after step 4: those of other ports, and the orphans that the port's ISSUED and ORPHANED entries are. -/
theorem orphanPort_entries (s : State) (p : Port) :
    (s.orphanPort p).entries =
      (s.entries.filter fun e => ¬ (e.port = p ∧ e.isIssued = false ∧ e.isOrphaned = false)).map
        (fun e => match e.state with
          | .issued g => if e.port = p then { e with state := .orphaned g } else e
          | _ => e) := by
  have hkept : ∀ e : Entry, (!((e.orphan p).port == p && !(e.orphan p).isOrphaned)) =
      decide (¬ (e.port = p ∧ e.isIssued = false ∧ e.isOrphaned = false)) := by
    intro e
    rw [Entry.orphan_port]
    by_cases hp : e.port = p
    · rw [Entry.orphan_isOrphaned hp]
      simp [hp]
    · simp [hp]
  have horphan : (fun e : Entry => e.orphan p) = fun e => match e.state with
      | .issued g => if e.port = p then { e with state := .orphaned g } else e
      | _ => e := by
    funext e
    unfold Entry.orphan
    by_cases hp : e.port = p
    · simp only [hp, if_true]
      cases e.state <;> rfl
    · simp only [hp, if_false]
      cases e.state <;> rfl
  rw [State.orphanPort, State.removeEntries_entries, State.setEntries_entries, List.filter_map, ← horphan]
  exact congrArg (List.map _) (List.filter_congr fun e _ => hkept e)

/-- With its last entry the table reports its emptiness, before the checks (R25). -/
theorem orphanPort_eq (s : State) (p : Port) :
    s.orphanPort p =
      if s.entries ≠ [] ∧ (s.orphanPort p).entries = [] then (s.setEntries (s.orphanPort p).entries).reportEmpty
      else s.setEntries (s.orphanPort p).entries := by
  have hnil : s.entries.map (fun e => e.orphan p) ≠ [] ↔ s.entries ≠ [] := by simp
  rw [State.orphanPort, State.removeEntries_entries, State.removeEntries, State.setEntries_entries]
  exact if_congr (and_congr_left fun _ => hnil) rfl rfl

/-- Steps 1 to 4 of a port reset spare what steps 1 to 3 made of the port. -/
theorem resetEntries_sparesPort {s : State} (ha : ArrivalLaw s) (p : Port) : SparesPort p s (s.resetEntries p) := by
  have horphaned : SparesPort p s (s.orphanPort p) := .of_eq (by simp [State.orphanPort]) (by simp [State.orphanPort])
    (by simp [State.orphanPort])
  exact horphaned.trans (settle_sparesPort (ha.of_moves (orphanPort_follows 0 s p).requests)
    (orphanPort_noneParked s p))

theorem resetEntries_noneParked (s : State) (p : Port) : NoneParked p (s.resetEntries p) :=
  (orphanPort_noneParked s p).of_moves (settle_keepsEntries 0 _)

theorem releaseOwned_sparesPort (s : State) (p : Port) : SparesPort p s (s.releaseOwned p) :=
  List.foldlRecOn (motive := SparesPort p s) allGuards (State.releaseIfOwned p) (.refl s) fun t ht g _ => by
    unfold State.releaseIfOwned
    split
    · exact ht.trans (.releaseGuard g)
    · exact ht

theorem releaseOwned_settle_sparesPort {s : State} (ha : ArrivalLaw s) {p : Port} (hn : NoneParked p s) :
    SparesPort p (s.releaseOwned p) (s.releaseOwned p).settle :=
  settle_sparesPort (ha.of_moves (releaseOwned_follows 0 s p).requests)
    (hn.of_moves (releaseOwned_follows 0 s p).keeps)

/-- What steps 4 and 5 leave of the reset port: an empty queue, IDLE records, and no guard. -/
theorem resetSteps_sparesPort {s : State} (ha : ArrivalLaw s) (p : Port) :
    SparesPort p ((s.resetEntries p).releaseOwned p) ((s.resetEntries p).releaseOwned p).settle :=
  releaseOwned_settle_sparesPort (arrivalLaw_happening.resetEntries ha p) (resetEntries_noneParked s p)

@[simp] theorem State.endFencing_responses (s : State) (p q : Port) :
    (s.endFencing p).ports[q].responses = s.ports[q].responses := by
  rcases s.endFencing_cases p with ⟨-, -, h⟩ | ⟨-, h⟩ <;> rw [h]
  rw [State.post_ports, State.setPort_get]
  split
  · subst q; rfl
  · rfl

theorem endFencing_portState_of_ne {s : State} {p q : Port} (hq : q ≠ p) :
    (s.endFencing p).ports[q].state = s.ports[q].state := by
  rcases s.endFencing_cases p with ⟨-, -, h⟩ | ⟨-, h⟩ <;> rw [h]
  rw [State.post_ports, State.setPort_get, if_neg hq.symm]

/-- At the end of fencing a FENCED port stays so with an orphan, and stands otherwise by its enable (R147). -/
theorem endFencing_portState_of_fenced {s : State} {p : Port} (hp : s.ports[p].state = .fenced) :
    (s.endFencing p).ports[p].state = if s.hasOrphan p then .fenced else stateByEnable s.config.ports[p] := by
  rcases s.endFencing_cases p with ⟨-, hnone, h⟩ | ⟨hnot, h⟩ <;> rw [h]
  · rw [State.post_ports, State.setPort_get, if_pos rfl, hnone]
    rfl
  · have horphan : s.hasOrphan p = true := by
      by_contra hnone
      exact hnot ⟨hp, Bool.eq_false_iff.mpr hnone⟩
    rw [if_pos horphan, hp]

theorem resetPort_entries_orphaned {s : State} (ha : ArrivalLaw s) {p : Port} {e : Entry}
    (he : e ∈ (s.resetPort p).entries) (hp : e.port = p) : e.isOrphaned = true := by
  have hclear : SameTable s (s.clearPort p) := .of_eq rfl rfl rfl rfl
  have hports := (resetEntries_portEntries ha hclear p).resetGuards (fun _ => State.OrphansOf.isOutstanding) p
  rw [resetPort_eq, State.endFencing_entries] at he
  obtain ⟨x, -, g, -, rfl⟩ := (hports.2 e hp).mp he
  rfl

/-- Settles O11, step by step: what a step makes of the port, the checks of other ports' entries spare. -/
theorem portResetClearsThePort : Obligations.PortResetClearsThePort := by
  intro s p hpor ha
  have hclear : ArrivalLaw (s.clearPort p) := ha
  have hentries := resetEntries_sparesPort hclear p
  have hsteps := (hentries.trans (releaseOwned_sparesPort _ p)).trans (resetSteps_sparesPort hclear p)
  have hstate : ∀ q : Port, (((s.clearPort p).resetEntries p).releaseOwned p).settle.ports[q].state =
      (s.clearPort p).ports[q].state := (resetSteps_tableOnly (s.clearPort p) p).portState
  have hconfig := (resetSteps_tableOnly (s.clearPort p) p).config
  refine ⟨s.resetPort p, exec_prstNAsserted hpor p, fun e => resetPort_entries_orphaned ha, ?_, fun h hh => ?_,
    fun g => ?_, ?_, fun q hq => ?_, resetPort_frame s p, ?_⟩
  · rw [resetPort_eq, State.endFencing_responses, hsteps.responses, clearPort_get, if_pos rfl]
  · rw [resetPort_eq, State.endFencing_reservations, hsteps.reservations h hh, clearPort_reservations, if_pos hh]
  · rw [resetPort_eq, State.endFencing_guards, Bool.eq_false_iff]
    intro hg
    have hnot := releaseOwned_not_owned ((s.clearPort p).resetEntries p) p g
    rw [(resetSteps_sparesPort hclear p).guards g hg] at hnot
    cases hnot
  · have hfenced := (hstate p).trans (congrArg PortRecord.state ((clearPort_get s p p).trans (if_pos rfl)))
    have horphan : ∀ u : State, (u.endFencing p).hasOrphan p = u.hasOrphan p := fun u => by
      simp only [State.hasOrphan, State.endFencing_entries]
    rw [resetPort_eq, endFencing_portState_of_fenced hfenced, horphan, hconfig]
    rfl
  · rw [resetPort_eq, endFencing_portState_of_ne hq, hstate q, clearPort_get, if_neg hq.symm]
  · refine ⟨(s.clearPort p).setEntries ((s.clearPort p).orphanPort p).entries,
      ((s.clearPort p).resetEntries p).releaseOwned p, orphanPort_entries _ p, rfl, clearPort_reservations s p, rfl,
      ?_, resetPort_eq s p⟩
    have hw : (s.clearPort p).resetEntries p =
        if s.entries ≠ [] ∧ ((s.clearPort p).orphanPort p).entries = [] then
          ((s.clearPort p).setEntries ((s.clearPort p).orphanPort p).entries).reportEmpty.settle
        else ((s.clearPort p).setEntries ((s.clearPort p).orphanPort p).entries).settle := by
      rw [resetEntries_eq, ← apply_ite State.settle]
      exact congrArg State.settle (orphanPort_eq (s.clearPort p) p)
    intro w
    have hw' : w = (s.clearPort p).resetEntries p := hw.symm
    rw [hw']
    exact ⟨releaseOwned_guards _ p, releaseOwned_entries _ p, releaseOwned_frame _ p⟩

end Sys2Proof.Machine
end

/-! # Part states and configuration (09_part_states_and_configuration.md) -/

section
namespace Sys2Proof.Machine

open Sys2Proof

/-! ## What no command but a configuration write and an assertion of POR_n changes (R37, R161, R162)

One relation carries three facts through every operation: the stored configuration stays, the waiting commands stay, and no
failure count comes to exceed the threshold. It gives both that every command leaves the queue alone and that every step
keeps the laws of the configuration and of the failure counts. -/

/-- From s to t the configuration and the waiting commands stay, and failure counts within the threshold stay within it. -/
structure Steady (s t : State) : Prop where
  config : t.config = s.config
  pending : t.pending = s.pending
  failures : FailureLaw s → FailureLaw t

/-- The law of failure counts speaks of the configuration and the records alone. -/
theorem FailureLaw.of_eq {s t : State} (hs : FailureLaw s) (hc : t.config = s.config)
    (hr : t.reservations = s.reservations) : FailureLaw t := fun h => by
  rw [hr, hc]; exact hs h

theorem failureLaw_of_idle {s : State} (h : s.reservations = Vector.replicate 12 ⟨.idle, 0⟩) : FailureLaw s :=
  fun k => by simp [h]

namespace Steady

variable {s t u : State}

theorem of_eq (hc : t.config = s.config) (hp : t.pending = s.pending) (hr : t.reservations = s.reservations) :
    Steady s t := ⟨hc, hp, fun hs => hs.of_eq hc hr⟩

theorem refl (s : State) : Steady s s := of_eq rfl rfl rfl

theorem trans (h : Steady s t) (k : Steady t u) : Steady s u :=
  ⟨k.config.trans h.config, k.pending.trans h.pending, fun hs => k.failures (h.failures hs)⟩

/-- The table's own work, where it leaves the records. -/
theorem of_table (h : TableOnly s t) (hr : t.reservations = s.reservations) : Steady s t := of_eq h.config h.pending hr

/-- A change of the records in which no failure count rises. -/
theorem of_counts (hc : t.config = s.config) (hp : t.pending = s.pending)
    (hr : ∀ h : Holder, t.reservations[h].failures ≤ s.reservations[h].failures) : Steady s t :=
  ⟨hc, hp, fun hs h => by rw [hc]; exact (hr h).trans (hs h)⟩

theorem setReservation {h : Holder} {r : Reservation} (hr : FailureLaw s → r.failures ≤ s.config.failureThreshold) :
    Steady s (s.setReservation h r) where
  config := rfl
  pending := rfl
  failures hs k := by
    rw [State.setReservation_get, State.setReservation_config]
    split
    · exact hr hs
    · exact hs k

/-- A record whose failure count becomes 0. -/
theorem zeroes (h : Holder) (st : ReservationState) : Steady s (s.setReservation h ⟨st, 0⟩) :=
  setReservation fun _ => Nat.zero_le _

/-- A record whose failure count stays. -/
theorem recounts {h : Holder} {r : Reservation} (hr : r.failures = s.reservations[h].failures) :
    Steady s (s.setReservation h r) := setReservation fun hs => hr ▸ hs h

end Steady

/-! ### Answers and judgements (R20, R34 to R39) -/

@[simp] theorem State.placeEntry_reservations (s : State) (e : Entry) :
    (s.placeEntry e).reservations = s.reservations := by
  unfold State.placeEntry; split <;> simp

@[simp] theorem State.placeIfRoom_reservations (s : State) (n : Nat) :
    (s.placeIfRoom n).reservations = s.reservations := by
  unfold State.placeIfRoom
  split
  · rfl
  · split
    · exact s.placeEntry_reservations _
    · rfl

@[simp] theorem State.answer_reservations (s : State) (n : Nat) (st : Status) (d : Option Data) :
    (s.answer n st d).reservations = s.reservations := (s.markAnswered n st d).placeIfRoom_reservations n

@[simp] theorem State.escalate_reservations (s : State) (h : Holder) (l : Line) :
    (s.escalate h l).reservations = s.reservations := by
  rcases s.escalate_cases h l with ⟨why, he⟩ | ⟨g, -, -, he⟩ <;> rw [he] <;> rfl

/-- A count within the threshold is within it when raised (R36). -/
theorem raisedFailures_le {c : Configuration} {n : Nat} (h : n ≤ c.failureThreshold) :
    raisedFailures c n ≤ c.failureThreshold := by
  unfold raisedFailures; split <;> omega

theorem answer_steady (s : State) (n : Nat) (st : Status) (d : Option Data) : Steady s (s.answer n st d) :=
  .of_table (answer_tableOnly s n st d) (by simp)

theorem placeIfRoom_steady (s : State) (n : Nat) : Steady s (s.placeIfRoom n) :=
  .of_table (placeIfRoom_tableOnly s n) (by simp)

theorem placeEntry_steady (s : State) (e : Entry) : Steady s (s.placeEntry e) :=
  .of_table (placeEntry_tableOnly s e) (by simp)

theorem releaseGuard_steady (s : State) (g : GuardNo) : Steady s (s.releaseGuard g) := .of_eq rfl rfl rfl

theorem makeReady_steady (s : State) (e : Entry) : Steady s (s.makeReady e) := .of_eq rfl rfl rfl

theorem escalate_steady (s : State) (h : Holder) (l : Line) : Steady s (s.escalate h l) :=
  .of_table (escalate_tableOnly s h l) (by simp)

theorem passJudgement_steady (s : State) (e : Entry) (l : Line) : Steady s (s.passJudgement e l) := by
  have hconsumed : Steady s (s.setReservation (holderOf e.port e.context) ⟨.idle, 0⟩) := .zeroes _ _
  cases hown : s.ownGuard (holderOf e.port e.context) l with
  | some g =>
    rw [passJudgement_of_owner hown]
    exact (hconsumed.trans (releaseGuard_steady _ g)).trans (makeReady_steady _ e)
  | none =>
    rw [passJudgement_of_no_guard hown]
    exact hconsumed.trans (makeReady_steady _ e)

theorem failAsOwner_steady (s : State) (e : Entry) (g : GuardNo) : Steady s (s.failAsOwner e g) :=
  ((Steady.zeroes _ _).trans (releaseGuard_steady _ g)).trans (answer_steady _ _ _ _)

/-- The one operation that raises a failure count stops at the threshold (R36). -/
theorem failed_steady (s : State) (e : Entry) : Steady s (s.failed e) :=
  have hmarked : Steady s (s.markAnswered e.arrival .failed none) := .of_eq rfl rfl rfl
  hmarked.trans (.setReservation fun hs => raisedFailures_le (hs (holderOf e.port e.context)))

theorem failJudgement_steady (s : State) (e : Entry) (l : Line) : Steady s (s.failJudgement e l) := by
  rw [failJudgement_eq]
  split
  · exact ((failed_steady s e).trans (escalate_steady _ _ _)).trans (placeIfRoom_steady _ _)
  · exact (failed_steady s e).trans (placeIfRoom_steady _ _)

theorem judge_steady (s : State) (e : Entry) (l : Line) : Steady s (s.judge e l) := by
  unfold State.judge
  dsimp only
  split
  · exact passJudgement_steady s e l
  · split
    · exact failAsOwner_steady s e _
    · exact failJudgement_steady s e l

theorem examine_steady (s : State) (e : Entry) : Steady s (s.examine e) := by
  unfold State.examine
  split
  · exact answer_steady s _ _ _
  · split
    · exact answer_steady s _ _ _
    · split
      · exact judge_steady s e _
      · exact makeReady_steady s e

theorem settle_steady (s : State) : Steady s s.settle :=
  settle_keeps (Steady s) (fun _ h => h.trans (.of_eq rfl rfl rfl)) (fun t e _ _ h => h.trans (examine_steady t e)) s
    (.refl s)

/-! ### Port resets and the ports' messages (R139, R145, R146) -/

theorem endFencing_steady (s : State) (p : Port) : Steady s (s.endFencing p) := .of_eq (by simp) (by simp) (by simp)

theorem orphanPort_steady (s : State) (p : Port) : Steady s (s.orphanPort p) :=
  .of_table ((setEntries_tableOnly s _).trans (removeEntries_tableOnly _ _)) (by simp [State.orphanPort])

theorem releaseOwned_steady (s : State) (p : Port) : Steady s (s.releaseOwned p) :=
  List.foldlRecOn (motive := Steady s) allGuards (State.releaseIfOwned p) (.refl s) fun t ht g _ => by
    unfold State.releaseIfOwned
    split
    · exact ht.trans (releaseGuard_steady t g)
    · exact ht

theorem clearPort_steady (s : State) (p : Port) : Steady s (s.clearPort p) :=
  have hfenced : Steady s (s.setPort p ⟨.fenced, []⟩) := .of_eq rfl rfl rfl
  (hfenced.trans (.zeroes (holderOf p 0) .idle)).trans (.zeroes (holderOf p 1) .idle)

theorem resetPort_steady (s : State) (p : Port) : Steady s (s.resetPort p) :=
  ((((clearPort_steady s p).trans ((orphanPort_steady _ p).trans (settle_steady _))).trans (releaseOwned_steady _ p)).trans
    (settle_steady _)).trans (endFencing_steady _ p)

theorem commandPortReset_steady (s : State) (args : CommandArguments) : Steady s (s.commandPortReset args).1 := by
  unfold State.commandPortReset
  cases namedPort args with
  | some p => dsimp only; exact resetPort_steady s p
  | none => exact .refl s

theorem takeRequest_steady (s : State) (p : Port) (m : Request) : Steady s (s.takeRequest p m) := by
  unfold State.takeRequest
  split
  · have hentered : Steady s (s.enter p m) := .of_eq rfl rfl rfl
    rw [State.accept_eq]
    exact hentered.trans (settle_steady _)
  · dsimp only
    split <;> exact .of_eq rfl rfl rfl

theorem takeFromWires_steady (s : State) (p : Port) : Steady s (s.takeFromWires p) := by
  unfold State.takeFromWires
  split
  · exact .refl s
  · split
    · rename_i m rest _ _
      have htaken : Steady s { s with wires := s.wires.set p rest } := .of_eq rfl rfl rfl
      exact htaken.trans (takeRequest_steady _ p m)
    · exact .refl s

theorem deliver_steady (s : State) (p : Port) : Steady s (s.deliver p) := by
  cases hr : s.ports[p].responses with
  | nil => rw [deliver_of_nil hr]; exact .refl s
  | cons r rest =>
    rw [deliver_of_cons hr]
    have htaken : Steady s (s.delivering p r rest) := .of_eq rfl rfl rfl
    unfold State.fillPlace
    split
    · exact htaken
    · exact htaken.trans (placeEntry_steady _ _)

/-! ### The scheduler and the downstream link (R104, R120, R124, R129) -/

theorem dispatchReservation_steady (s : State) (e : Entry) (l : Line) : Steady s (s.dispatchReservation e l) := by
  have hframe := dispatchReservation_frame s e l
  refine .of_counts (by rw [hframe]) (by rw [hframe]) fun k => ?_
  rw [dispatchReservation_get]
  split
  · exact le_rfl
  · split
    · rw [Reservation.break_failures]
    · exact le_rfl

theorem dispatch_steady (s : State) : Steady s s.dispatch := by
  unfold State.dispatch
  split
  · split
    · rename_i k e _ _
      split
      · rename_i l _
        have hbound : Steady s (s.bind e l k) := .of_eq rfl rfl rfl
        exact (hbound.trans (dispatchReservation_steady _ e l)).trans (settle_steady _)
      · exact .refl s
    all_goals exact .refl s
  · exact .refl s

theorem recordFault_steady (s : State) (l : Line) (c : FaultCause) (p : Port) : Steady s (s.recordFault l c p) := by
  have hframe := s.recordFault_frame l c p
  refine .of_counts (by rw [hframe]) (by rw [hframe]) fun k => ?_
  rw [State.recordFault_get, Reservation.break_failures]

theorem endReserve_steady (s : State) (e : Entry) (l : Line) : Steady s (s.endReserve e l) := by
  unfold State.endReserve
  split
  · exact .recounts (Reservation.break_failures _ l .readFailed)
  · exact .refl s

theorem faultWrite_steady (s : State) (e : Entry) (l : Line) (c : FaultCause) : Steady s (s.faultWrite e l c) := by
  unfold State.faultWrite
  split
  · exact recordFault_steady s l c e.port
  · exact .refl s

theorem endOperation_steady (s : State) (e : Entry) (st : Status) (d : Option Data) : Steady s (s.endOperation e st d) := by
  unfold State.endOperation
  split
  · have hleft : Steady s (s.setEntries (s.entries.filter fun x => x.arrival != e.arrival)) := .of_eq rfl rfl rfl
    have hfenced := (hleft.trans (settle_steady _)).trans (endFencing_steady _ e.port)
    dsimp only
    split
    · exact hfenced.trans (.of_eq (by simp) (by simp) (by simp))
    · exact hfenced
  · exact (answer_steady s e.arrival st d).trans (settle_steady _)

theorem completeReserve_steady (s : State) (e : Entry) (l : Line) (o : CompletionOutcome) :
    Steady s (s.completeReserve e l o) := by
  unfold State.completeReserve
  split
  · exact endReserve_steady s e l
  · exact .refl s

theorem completeFault_steady (s : State) (e : Entry) (l : Line) (o : CompletionOutcome) :
    Steady s (s.completeFault e l o) := by
  cases o with
  | dataError => exact recordFault_steady s l _ e.port
  | doneCorrected =>
    unfold State.completeFault
    dsimp only
    split
    · exact .of_eq rfl rfl rfl
    · split <;> exact .of_eq rfl rfl rfl
  | done =>
    unfold State.completeFault
    dsimp only
    split <;> exact .of_eq rfl rfl rfl

theorem completeEntry_steady (s : State) (t : Tag) (e : Entry) (l : Line) (m : Completion) :
    Steady s (s.completeEntry t e l m) :=
  have hgiven : Steady s (s.giveBack t .free l) := .of_eq rfl rfl rfl
  ((hgiven.trans (completeReserve_steady _ e l _)).trans (completeFault_steady _ e l _)).trans
    (endOperation_steady _ e _ _)

theorem complete_steady (s : State) (m : Completion) : Steady s (s.complete m) := by
  unfold State.complete
  split
  · unfold State.completeTag
    split
    · exact .of_eq rfl rfl rfl
    · exact .of_eq rfl rfl rfl
    · split
      · exact .of_eq rfl rfl rfl
      · split
        · exact .of_eq rfl rfl rfl
        · exact completeEntry_steady s _ _ _ m
  · exact .of_eq rfl rfl rfl

theorem timeOutEntry_steady (s : State) (t : Tag) (e : Entry) (l : Line) : Steady s (s.timeOutEntry t e l) :=
  have hgiven : Steady s (s.giveBack t (.quarantined (operationOf e.kind) l e.port) l) := .of_eq rfl rfl rfl
  (((hgiven.trans (endReserve_steady _ e l)).trans (faultWrite_steady _ e l .writeTimeout)).trans
    (endOperation_steady _ e .timeout none)).trans (.of_eq rfl rfl rfl)

theorem timeOut_steady (s : State) (t : Tag) : Steady s (s.timeOut t) := by
  unfold State.timeOut
  split
  · exact .refl s
  · exact .refl s
  · split
    · exact .refl s
    · split
      · exact .refl s
      · exact timeOutEntry_steady s t _ _

theorem linkAbort_steady (s : State) : Steady s s.linkAbort := by
  have hbroken : Steady s s.breakAborted := List.foldlRecOn (motive := Steady s) s.outstanding _ (.refl s)
    fun t ht e _ => onLine_keeps (fun u e l hu => hu.trans (endReserve_steady u e l)) t e ht
  have hrecorded : Steady s s.abortRecorded := List.foldlRecOn (motive := Steady s) s.outstanding _ hbroken
    fun t ht e _ => onLine_keeps (fun u e l hu => hu.trans (faultWrite_steady u e l .writeAborted)) t e ht
  have hended : Steady s (s.abortRecorded.endAborted s.outstanding) :=
    List.foldlRecOn (motive := Steady s) s.outstanding _ hrecorded fun t ht e _ =>
      ht.trans (endOperation_steady t e .aborted none)
  exact hended.trans (.of_eq rfl rfl rfl)

theorem signalDown_steady (s : State) : Steady s s.signalDown := by
  unfold State.signalDown
  split
  · exact linkAbort_steady s
  · exact .refl s

/-! ### Timers, commands and frames -/

theorem expireReservation_steady (s : State) (h : Holder) : Steady s (s.expireReservation h) := by
  unfold State.expireReservation
  split
  · exact .recounts rfl
  all_goals exact .refl s

theorem expireGuard_steady (s : State) (g : GuardNo) : Steady s (s.expireGuard g) := by
  cases hg : s.guards[g] with
  | free => rw [expireGuard_of_free hg]; exact .refl s
  | active l o i =>
    rw [expireGuard_of_active hg]
    have hexpired : Steady s (s.expired g l o) := (Steady.zeroes o s.reservations[o].state).trans (.of_eq rfl rfl rfl)
    exact hexpired.trans (settle_steady _)

theorem expireRecovery_steady (s : State) (b : BankNo) : Steady s (s.expireRecovery b) := by
  unfold State.expireRecovery; split <;> exact .of_eq rfl rfl rfl

theorem checkOnline_steady (s : State) : Steady s s.checkOnline.1 := by
  unfold State.checkOnline; split <;> exact .of_eq rfl rfl rfl

theorem goOnline_steady (s : State) : Steady s s.goOnline.1 := by
  unfold State.goOnline
  split
  · exact checkOnline_steady s
  · exact checkOnline_steady s
  · exact .of_eq rfl rfl rfl
  · exact .refl s

theorem drain_steady (s : State) : Steady s s.drain.1 := by
  unfold State.drain
  split
  · split <;> exact .of_eq rfl rfl rfl
  all_goals exact .refl s

/-- FULL_RESET keeps the configuration and sets every failure count to 0 (R160). -/
theorem fullReset_steady (s : State) : Steady s s.fullReset := ⟨rfl, rfl, fun _ => failureLaw_of_idle rfl⟩

theorem clearFault_steady (s : State) (l : Line) : Steady s (s.clearFault l).1 := by
  unfold State.clearFault; split <;> exact .of_eq rfl rfl rfl

theorem releasePower_steady (s : State) : Steady s s.releasePower := by
  unfold State.releasePower; split <;> exact .of_eq rfl rfl rfl

theorem writeSelector_steady (s : State) (v : Word) : Steady s (s.writeSelector v) := by
  unfold State.writeSelector; split <;> exact .of_eq rfl rfl rfl

theorem writeOther_steady (s : State) (w : OtherWord) (v : Word) : Steady s (s.writeOther w v) := by
  cases w <;> exact .of_eq rfl rfl rfl

theorem quietFrame_steady (s : State) (f : QuietFrame) : Steady s (s.quietFrame f) := by
  obtain ⟨q, o, m, h, -⟩ := s.quietFrame_eq f
  rw [h]
  exact .of_eq rfl rfl rfl

/-- The end of a command's frame changes the link interface's own words alone. -/
theorem Steady.endCommand {s t : State} (h : Steady s t) (code : Byte) (r : CommandResult) :
    Steady s (t.endCommand code r) := h.trans (.of_eq rfl rfl rfl)

end Sys2Proof.Machine
end

section
namespace Sys2Proof.Machine

open Sys2Proof

/-! ## Every well-formed command completes -/

/-- A command that the guard of POR_n lets do no more than f completes, and what f leaves steady stays so. -/
theorem completes_unlessHeld {s : State} {f : State → State} (hf : Steady s (f s)) :
    ∃ t, (Host.Outcome.next (s.unlessHeld f) : Host.Outcome State Fault Refusal) = .next t ∧ Steady s t := by
  refine ⟨_, rfl, ?_⟩
  unfold State.unlessHeld
  split
  · exact .refl s
  · exact hf

theorem isUnknownCode_iff (code : Byte) : isUnknownCode code = true ↔ code = 0 ∨ 8 ≤ code.toNat := by
  simp [isUnknownCode]

theorem isBadFrame_iff (operation address : Byte) :
    isBadFrame operation address = true ↔ (operation ≠ 1 ∧ operation ≠ 2) ∨ 30 ≤ address.toNat := by
  simp [isBadFrame]

theorem exec_unknownCommand_eq {code : Byte} (h : isUnknownCode code = true) (args : CommandArguments) (s : State) :
    exec (.unknownCommand code args) s = .next (s.unlessHeld fun s => s.endCommand code .badArgument) :=
  if_pos ((isUnknownCode_iff code).mp h)

theorem exec_badAddress_eq {operation address : Byte} (h : isBadFrame operation address = true) (s : State) :
    exec (.badAddress operation address) s = .next (s.unlessHeld fun s => s.endFrame .badAddress (bytesOf 0)) :=
  if_pos ((isBadFrame_iff operation address).mp h)

/-- A term that spells another row's command is refused (log entry 17). -/
theorem exec_of_illFormed {c : Instr} (h : c.wellFormed = false) (s : State) : exec c s = .refused .illFormed := by
  cases c with
  | unknownCommand code args =>
    exact if_neg fun hcode => by simp [Instr.wellFormed, (isUnknownCode_iff code).mpr hcode] at h
  | badAddress op address =>
    exact if_neg fun hbad => by simp [Instr.wellFormed, (isBadFrame_iff op address).mpr hbad] at h
  | _ => cases h

/-- A well-formed command is an assertion of POR_n or a configuration write, or it completes and leaves the configuration,
the waiting commands and the bound on the failure counts. -/
theorem exec_steady {c : Instr} (hwf : c.wellFormed = true) (s : State) :
    c = .porNAsserted ∨ (∃ w v, c = .configurationWrite w v) ∨ ∃ t, exec c s = .next t ∧ Steady s t := by
  cases c with
  | porNAsserted => exact .inl rfl
  | configurationWrite w v => exact .inr (.inl ⟨w, v, rfl⟩)
  | porNDeasserted => exact .inr (.inr ⟨_, rfl, releasePower_steady s⟩)
  | prstNAsserted p => exact .inr (.inr (completes_unlessHeld (resetPort_steady s p)))
  | request p m =>
    have hpresented : Steady s (s.present p m) := .of_eq rfl rfl rfl
    obtain ⟨t, ht, hst⟩ := completes_unlessHeld (f := fun s => s.takeFromWires p) (takeFromWires_steady (s.present p m) p)
    exact .inr (.inr ⟨t, ht, hpresented.trans hst⟩)
  | delivery p => exact .inr (.inr (completes_unlessHeld (deliver_steady s p)))
  | dispatch => exact .inr (.inr (completes_unlessHeld (dispatch_steady s)))
  | completion m => exact .inr (.inr (completes_unlessHeld (complete_steady s m)))
  | completionTimeout k => exact .inr (.inr (completes_unlessHeld (timeOut_steady s k)))
  | linkUp => exact .inr (.inr (completes_unlessHeld (.of_eq rfl rfl rfl)))
  | linkDown => exact .inr (.inr (completes_unlessHeld (signalDown_steady s)))
  | reservationExpiry k => exact .inr (.inr (completes_unlessHeld (expireReservation_steady s k)))
  | guardExpiry g => exact .inr (.inr (completes_unlessHeld (expireGuard_steady s g)))
  | bankRecoveryExpiry b => exact .inr (.inr (completes_unlessHeld (expireRecovery_steady s b)))
  | goOnline args => exact .inr (.inr (completes_unlessHeld ((goOnline_steady s).endCommand 1 _)))
  | drain args => exact .inr (.inr (completes_unlessHeld ((drain_steady s).endCommand 2 _)))
  | fullReset args => exact .inr (.inr (completes_unlessHeld ((fullReset_steady s).endCommand 3 .done)))
  | portReset args => exact .inr (.inr (completes_unlessHeld ((commandPortReset_steady s args).endCommand 4 _)))
  | linkReset args =>
    have hsent : Steady s (s.send .linkReset) := .of_eq rfl rfl rfl
    exact .inr (.inr (completes_unlessHeld ((hsent.trans (signalDown_steady _)).endCommand 5 .done)))
  | clearFault args => exact .inr (.inr (completes_unlessHeld ((clearFault_steady s _).endCommand 6 _)))
  | clearAllFaults args => exact .inr (.inr (completes_unlessHeld (.of_eq rfl rfl rfl)))
  | unknownCommand code args =>
    rw [exec_unknownCommand_eq hwf]
    exact .inr (.inr (completes_unlessHeld ((Steady.refl s).endCommand code .badArgument)))
  | noticeMaskWrite v => exact .inr (.inr (completes_unlessHeld (.of_eq rfl rfl rfl)))
  | readOutSelectorWrite v => exact .inr (.inr (completes_unlessHeld (writeSelector_steady s v)))
  | noticeHeadRead n => exact .inr (.inr (completes_unlessHeld (quietFrame_steady s (.read 16 n))))
  | noticeStatusRead n => exact .inr (.inr (completes_unlessHeld (quietFrame_steady s (.read 18 n))))
  | registerWrite w v => exact .inr (.inr (completes_unlessHeld (writeOther_steady s w v)))
  | badAddress op address =>
    rw [exec_badAddress_eq hwf]
    exact .inr (.inr (completes_unlessHeld (.of_eq rfl rfl rfl)))

theorem writeConfiguration_pending (s : State) (w : ConfigWord) (v : Word) :
    (s.writeConfiguration w v).pending = s.pending := by
  unfold State.writeConfiguration
  split
  · split <;> rfl
  · rfl

/-- Settles O3: an assertion of POR_n and a configuration write leave the queue as the other commands do, and the two rows
whose operands can spell another row's command are the only ones that refuse. -/
theorem everyCommandCompletesAndKeepsTheQueue : Obligations.EveryCommandCompletesAndKeepsTheQueue := by
  intro c s
  refine ⟨fun hwf => ?_, fun hill => exec_of_illFormed hill s⟩
  obtain rfl | ⟨w, v, rfl⟩ | ⟨t, ht, hst⟩ := exec_steady hwf s
  · exact ⟨_, rfl, rfl⟩
  · refine ⟨_, rfl, ?_⟩
    unfold State.unlessHeld
    split
    · rfl
    · exact writeConfiguration_pending s w v
  · exact ⟨t, ht, hst.pending⟩

end Sys2Proof.Machine
end

section
namespace Sys2Proof.Machine

open Sys2Proof

/-! ## The fields of a configuration word and their ranges (R161, R168) -/

/-- Every field of word w in the value v lies within its range (R162). -/
def FieldsInRange (w : ConfigWord) (v : Word) : Prop :=
  match w with
  | .memorySize => 26 ≤ field v 5 0 ∧ field v 5 0 ≤ 40
  | .port _ => 4 ≤ field v 13 8 ∧ field v 13 8 ≤ 40
  | .banks => field v 1 0 ≠ 3 ∧ 6 ≤ field v 12 8 ∧ field v 12 8 ≤ 20
  | .lifetimes => 1 ≤ field v 9 0 ∧ 1 ≤ field v 25 16
  | .completionTimeout => 1 ≤ field v 15 0
  | .scheduling => 1 ≤ field v 4 0 ∧ 1 ≤ field v 11 8

/-- The configuration with the fields of word w taken from the value v. -/
def Configuration.stored (c : Configuration) (w : ConfigWord) (v : Word) : Configuration :=
  match w with
  | .memorySize => { c with memorySizeLog2 := field v 5 0 }
  | .port p =>
    { c with ports := c.ports.set p ⟨v.getLsbD 0, if v.getLsbD 1 then .strict else .line, field v 13 8⟩ }
  | .banks =>
    { c with
      bankCount := if field v 1 0 = 0 then .eight else if field v 1 0 = 1 then .sixteen else .thirtyTwo
      bankMapping := if v.getLsbD 4 then .folded else .linear
      foldShift := field v 12 8, recoveryInterval := field v 21 16 }
  | .lifetimes => { c with reservationLifetime := field v 9 0, guardLifetime := field v 25 16 }
  | .completionTimeout => { c with completionTimeout := field v 15 0 }
  | .scheduling => { c with bypassLimit := field v 4 0, failureThreshold := field v 11 8 }

theorem field_lt (v : Word) (hi lo : Nat) : field v hi lo < 2 ^ (hi + 1 - lo) := Nat.mod_lt _ (Nat.two_pow_pos _)

/-- A bank count code is in range unless it is 3. -/
theorem BankCount.ofCode_of_lt {n : Nat} (h : n < 3) :
    BankCount.ofCode n = some (if n = 0 then .eight else if n = 1 then .sixteen else .thirtyTwo) := by
  match n, h with
  | 0, _ => rfl
  | 1, _ => rfl
  | 2, _ => rfl

/-- A word in range is stored whole. -/
theorem Configuration.write_of_inRange (c : Configuration) {w : ConfigWord} {v : Word} (h : FieldsInRange w v) :
    c.write w v = some (c.stored w v) := by
  cases w with
  | banks =>
    obtain ⟨hcount, hshift⟩ := h
    have hcode : field v 1 0 < 3 := by have := field_lt v 1 0; omega
    simp only [Configuration.write, BankCount.ofCode_of_lt hcode, if_pos hshift]
    rfl
  | _ => exact if_pos h

/-- A word with a field out of range is not stored. -/
theorem Configuration.write_of_not_inRange (c : Configuration) {w : ConfigWord} {v : Word} (h : ¬ FieldsInRange w v) :
    c.write w v = none := by
  cases w with
  | banks =>
    by_cases hcount : field v 1 0 = 3
    · simp only [Configuration.write, hcount]
      rfl
    · have hcode : field v 1 0 < 3 := by have := field_lt v 1 0; omega
      simp only [Configuration.write, BankCount.ofCode_of_lt hcode, if_neg fun hshift => h ⟨hcount, hshift⟩]
  | _ => exact if_neg h

/-! ## The laws of the configuration and of the failure counts (R37, R161, R162) -/

/-- The items at power-on lie within their ranges (R162). -/
theorem configurationLaw_of_powerOn {s : State} (h : s.config = Configuration.powerOn) : ConfigurationLaw s := by
  simp [ConfigurationLaw, h, Configuration.powerOn]

/-- The items that a word in range stores lie within theirs. -/
theorem ConfigurationLaw.stored {s t : State} (hs : ConfigurationLaw s) {w : ConfigWord} {v : Word} (hw : FieldsInRange w v)
    (ht : t.config = s.config.stored w v) : ConfigurationLaw t := by
  obtain ⟨hsize, hports, hshift, hrecovery, hlife, hguard, htimeout, hbypass, hthreshold⟩ := hs
  unfold ConfigurationLaw
  rw [ht]
  cases w with
  | memorySize => exact ⟨hw, hports, hshift, hrecovery, hlife, hguard, htimeout, hbypass, hthreshold⟩
  | port p =>
    refine ⟨hsize, fun q => ?_, hshift, hrecovery, hlife, hguard, htimeout, hbypass, hthreshold⟩
    dsimp only [Configuration.stored]
    rw [vector_set_get]
    split
    · exact hw
    · exact hports q
  | banks =>
    exact ⟨hsize, hports, hw.2, Nat.le_of_lt_succ (field_lt v 21 16), hlife, hguard, htimeout, hbypass, hthreshold⟩
  | lifetimes =>
    exact ⟨hsize, hports, hshift, hrecovery, ⟨hw.1, Nat.le_of_lt_succ (field_lt v 9 0)⟩,
      ⟨hw.2, Nat.le_of_lt_succ (field_lt v 25 16)⟩, htimeout, hbypass, hthreshold⟩
  | completionTimeout =>
    exact ⟨hsize, hports, hshift, hrecovery, hlife, hguard, ⟨hw, Nat.le_of_lt_succ (field_lt v 15 0)⟩, hbypass,
      hthreshold⟩
  | scheduling =>
    exact ⟨hsize, hports, hshift, hrecovery, hlife, hguard, htimeout, ⟨hw.1, Nat.le_of_lt_succ (field_lt v 4 0)⟩,
      ⟨hw.2, Nat.le_of_lt_succ (field_lt v 11 8)⟩⟩

/-- The configuration law speaks of the configuration alone. -/
theorem ConfigurationLaw.of_eq {s t : State} (hs : ConfigurationLaw s) (h : t.config = s.config) : ConfigurationLaw t := by
  unfold ConfigurationLaw
  rw [h]
  exact hs

theorem Reservation.cap_eq (r : Reservation) (n : Nat) : r.cap n = ⟨r.state, min r.failures n⟩ := by
  unfold Reservation.cap
  congr 1
  split <;> omega

theorem storeConfiguration_reservation (s : State) (c : Configuration) (h : Holder) :
    (s.storeConfiguration c).reservations[h] =
      ⟨s.reservations[h].state, min s.reservations[h].failures c.failureThreshold⟩ := by
  simp [State.storeConfiguration, Reservation.cap_eq]

/-- A configuration write is taken, with every field in range, or it changes the trace and the held status alone. -/
theorem writeConfiguration_cases (s : State) (w : ConfigWord) (v : Word) :
    (s.takesConfiguration = true ∧ FieldsInRange w v ∧
      s.writeConfiguration w v = (s.storeConfiguration (s.config.stored w v)).endFrame .ok []) ∨
    (¬ (s.takesConfiguration = true ∧ FieldsInRange w v) ∧ s.writeConfiguration w v = s.endFrame .denied []) := by
  by_cases htakes : s.takesConfiguration = true
  · by_cases hw : FieldsInRange w v
    · exact .inl ⟨htakes, hw, by simp only [State.writeConfiguration, if_pos htakes, s.config.write_of_inRange hw]⟩
    · exact .inr ⟨fun h => hw h.2, by
        simp only [State.writeConfiguration, if_pos htakes, s.config.write_of_not_inRange hw]⟩
  · exact .inr ⟨fun h => htakes h.1, if_neg htakes⟩

theorem ConfigurationLaw.writeConfiguration {s : State} (hs : ConfigurationLaw s) (w : ConfigWord) (v : Word) :
    ConfigurationLaw (s.writeConfiguration w v) := by
  rcases writeConfiguration_cases s w v with ⟨-, hw, h⟩ | ⟨-, h⟩ <;> rw [h]
  · exact hs.stored hw rfl
  · exact hs.of_eq rfl

/-- A taken write caps the counts at the threshold it leaves stored (R37). -/
theorem FailureLaw.writeConfiguration {s : State} (hs : FailureLaw s) (w : ConfigWord) (v : Word) :
    FailureLaw (s.writeConfiguration w v) := by
  rcases writeConfiguration_cases s w v with ⟨-, -, h⟩ | ⟨-, h⟩ <;> rw [h]
  · intro k
    have hcapped := storeConfiguration_reservation s (s.config.stored w v) k
    exact (congrArg Reservation.failures hcapped).trans_le (Nat.min_le_right _ _)
  · exact hs.of_eq rfl rfl

/-- A law of the configuration and the reservation records that power-on meets, that what is steady keeps, and that a
configuration write keeps, is kept by every step. -/
theorem everyStepKeeps_of_steady {P : State → Prop}
    (hrecords : ∀ {s t : State}, P s → t.config = s.config → t.reservations = s.reservations → P t)
    (hsteady : ∀ {s t : State}, P s → Steady s t → P t)
    (hpower : ∀ {s : State}, s.config = State.reset.config → s.reservations = State.reset.reservations → P s)
    (hwrite : ∀ {s : State} (w : ConfigWord) (v : Word), P s → P (s.writeConfiguration w v)) : EveryStepKeeps P := by
  have hexec : ∀ {c : Instr} {s t : State}, P s → exec c s = .next t → P t := by
    intro c s t hs ht
    cases hwf : c.wellFormed with
    | false => rw [exec_of_illFormed hwf] at ht; cases ht
    | true =>
      obtain rfl | ⟨w, v, rfl⟩ | ⟨u, hu, hsu⟩ := exec_steady hwf s
      · cases ht; exact hpower rfl rfl
      · exact keeps_unlessHeld ht hs (hwrite w v hs)
      · rw [hu] at ht; cases ht; exact hsteady hs hsu
  intro s t hs ht
  unfold step at ht
  split at ht
  · rename_i c rest _
    have hrest : P { s with pending := rest } := hrecords hs rfl rfl
    exact hexec hrest ht
  · rcases s.nextFrame_cases with ⟨f, rest, -, -, hf⟩ | ⟨-, hf⟩
    · have hrest : P { s with frames := rest } := hrecords hs rfl rfl
      rw [hf] at ht
      cases hd : decodeFrame f with
      | command c => rw [hd] at ht; exact hexec hrest ht
      | quiet q => rw [hd] at ht; cases ht; exact hsteady hrest (quietFrame_steady _ q)
    · rw [hf] at ht
      refine keeps_unlessHeld ht hs ?_
      split
      · exact hsteady hs (takeFromWires_steady s _)
      · exact hs

/-- Settles O52: the configuration changes at power-on and by writes in range alone, and a failure count rises by a failed
judgement alone, which stops at the threshold. -/
theorem stepKeepsConfigurationAndFailureLaws : Obligations.StepKeepsConfigurationAndFailureLaws :=
  ⟨everyStepKeeps_of_steady (fun hs hc _ => hs.of_eq hc) (fun hs h => hs.of_eq h.config)
      (fun hc _ => configurationLaw_of_powerOn hc) (fun w v hs => hs.writeConfiguration w v),
    everyStepKeeps_of_steady (fun hs hc hr => hs.of_eq hc hr) (fun hs h => h.failures hs)
      (fun _ hr => failureLaw_of_idle hr) fun w v hs => hs.writeConfiguration w v⟩

end Sys2Proof.Machine
end

section
namespace Sys2Proof.Machine

open Sys2Proof

/-! ## While POR_n is asserted (R154) -/

theorem State.unlessHeld_of_held {s : State} (h : s.porAsserted = true) (f : State → State) : s.unlessHeld f = s :=
  if_pos h

/-- Of all commands only POR_n's own two and a request reach a held part. -/
theorem exec_of_held {s : State} {c : Instr} (hheld : s.porAsserted = true) (hwf : c.wellFormed = true)
    (hassert : c ≠ .porNAsserted) (hrelease : c ≠ .porNDeasserted) (hrequest : ∀ p m, c ≠ .request p m) :
    exec c s = .next s := by
  cases c with
  | porNAsserted => exact absurd rfl hassert
  | porNDeasserted => exact absurd rfl hrelease
  | request p m => exact absurd rfl (hrequest p m)
  | unknownCommand code args =>
    rw [exec_unknownCommand_eq hwf, State.unlessHeld_of_held hheld]
  | badAddress op address =>
    rw [exec_badAddress_eq hwf, State.unlessHeld_of_held hheld]
  | _ => exact congrArg Host.Outcome.next (State.unlessHeld_of_held hheld _)

theorem exec_request_of_held {s : State} (hheld : s.porAsserted = true) (p : Port) (m : Request) :
    exec (.request p m) s = .next (s.present p m) :=
  congrArg Host.Outcome.next (State.unlessHeld_of_held (s := s.present p m) hheld _)

/-- Settles O6, by whether the command is a request. -/
theorem heldPartTakesNothing : Obligations.HeldPartTakesNothing := by
  intro s c hheld hwf hassert hrelease
  by_cases hrequest : ∃ p m, c = .request p m
  · obtain ⟨p, m, rfl⟩ := hrequest
    refine ⟨s.present p m, exec_request_of_held hheld p m, rfl, fun h => absurd rfl (h p m), ?_⟩
    rintro _ _ ⟨⟩
    rfl
  · have hnot : ∀ p m, c ≠ .request p m := fun p m h => hrequest ⟨p, m, h⟩
    exact ⟨s, exec_of_held hheld hwf hassert hrelease hnot, rfl, fun _ => rfl, fun p m h => absurd h (hnot p m)⟩

/-! ## GO_ONLINE, DRAIN and FULL_RESET (R155 to R160) -/

section Released

variable {s : State} (hpor : s.porAsserted = false)

include hpor

theorem exec_goOnline (args : CommandArguments) :
    exec (.goOnline args) s = .next (s.goOnline.1.endCommand 1 s.goOnline.2) :=
  congrArg Host.Outcome.next (State.unlessHeld_of_released hpor _)

theorem exec_drain (args : CommandArguments) : exec (.drain args) s = .next (s.drain.1.endCommand 2 s.drain.2) :=
  congrArg Host.Outcome.next (State.unlessHeld_of_released hpor _)

theorem exec_fullReset (args : CommandArguments) : exec (.fullReset args) s = .next (s.fullReset.endCommand 3 .done) :=
  congrArg Host.Outcome.next (State.unlessHeld_of_released hpor _)

theorem exec_configurationWrite (w : ConfigWord) (v : Word) :
    exec (.configurationWrite w v) s = .next (s.writeConfiguration w v) :=
  congrArg Host.Outcome.next (State.unlessHeld_of_released hpor _)

/-- Every block at its power-on value but what FULL_RESET keeps: POR_n is not asserted before or after. -/
theorem fullReset_eq :
    s.fullReset = { State.reset with
      config := s.config
      ports := resetPorts s.config
      notices := ⟨[], false, s.notices.mask⟩
      mgmt := { s.mgmt with noticeDetail := 0 }
      wires := s.wires, frames := s.frames, linkOut := s.linkOut ++ [.linkReset]
      delivered := s.delivered, frameOut := s.frameOut, pending := s.pending } := by
  rw [State.fullReset, hpor]
  rfl

end Released

theorem Configuration.passesCheck_iff (c : Configuration) :
    c.passesCheck = true ↔ ∃ p : Port, c.ports[p].enable = true := by
  have hall : allPorts = List.finRange 6 := rfl
  simp [Configuration.passesCheck, hall]

theorem goOnline_of_taking {s : State} (h : s.partState = .offline ∨ s.partState = .quiesced) :
    s.goOnline = s.checkOnline := by
  rcases h with h | h <;> simp only [State.goOnline, h]

theorem checkOnline_of_enabled {s : State} (h : ∃ p : Port, s.config.ports[p].enable = true) :
    s.checkOnline = ({ s with partState := .online }, .done) := if_pos (s.config.passesCheck_iff.mpr h)

theorem checkOnline_of_none_enabled {s : State} (h : ∀ p : Port, s.config.ports[p].enable = false) :
    s.checkOnline = (s, .configInvalid) := by
  refine if_neg fun hpass => ?_
  obtain ⟨p, hp⟩ := s.config.passesCheck_iff.mp hpass
  rw [h p] at hp
  cases hp

theorem goOnline_of_draining {s : State} (h : s.partState = .draining) :
    s.goOnline = ({ s with partState := .online }, .done) := by
  simp only [State.goOnline, h]

theorem goOnline_of_online {s : State} (h : s.partState = .online) : s.goOnline = (s, .stateError) := by
  simp only [State.goOnline, h]

theorem drain_of_entries {s : State} (h : s.partState = .online) (he : s.entries ≠ []) :
    s.drain = ({ s with partState := .draining }, .done) := by
  simp only [State.drain, h, if_neg he]

theorem drain_of_empty {s : State} (h : s.partState = .online) (he : s.entries = []) :
    s.drain = (State.post { s with partState := .quiesced } .drainDone none .none, .done) := by
  simp only [State.drain, h, if_pos he]

theorem drain_of_not_online {s : State} (h : s.partState ≠ .online) : s.drain = (s, .stateError) := by
  unfold State.drain
  split
  next honline => exact absurd honline h
  all_goals rfl

/-- Settles O34, by the part state, and in OFFLINE and QUIESCED by the configuration check. -/
theorem goOnlineByPartState : Obligations.GoOnlineByPartState := by
  intro s args hpor
  rw [exec_goOnline hpor]
  refine ⟨fun htaking => ⟨fun henabled => ?_, fun hnone => ?_⟩, fun hdraining => ?_, fun honline => ?_⟩
  · rw [goOnline_of_taking htaking, checkOnline_of_enabled henabled, State.endCommand_eq]
  · rw [goOnline_of_taking htaking, checkOnline_of_none_enabled hnone, State.endCommand_eq]
  · rw [goOnline_of_draining hdraining, State.endCommand_eq]
  · rw [goOnline_of_online honline, State.endCommand_eq, ← honline]

/-- Settles O35, by the part state, and in ONLINE by whether the table holds an entry. -/
theorem drainByPartState : Obligations.DrainByPartState := by
  intro s args hpor
  rw [exec_drain hpor]
  refine ⟨fun honline hentries => ?_, fun honline hempty => ?_, fun hnot => ?_⟩
  · rw [drain_of_entries honline hentries, State.endCommand_eq]
  · rw [drain_of_empty honline hempty, State.endCommand_eq]
    rfl
  · rw [drain_of_not_online hnot, State.endCommand_eq]

theorem resetPorts_get (c : Configuration) (p : Port) :
    (resetPorts c)[p] = ⟨if c.ports[p].enable then .active else .disabled, []⟩ := by
  simp [resetPorts, stateByEnable]

/-- Settles O36: the frame of the command ends after the reset, so its result and status stand in the words kept. -/
theorem fullResetReturnsEveryBlock : Obligations.FullResetReturnsEveryBlock := by
  intro s args hpor
  refine ⟨_, exec_fullReset hpor args, resetPorts_get s.config, ?_⟩
  rw [fullReset_eq hpor]
  rfl

end Sys2Proof.Machine
end

section
namespace Sys2Proof.Machine

open Sys2Proof

/-! ## Configuration writes (R161, R162, R168) -/

theorem State.takesConfiguration_iff (s : State) :
    s.takesConfiguration = true ↔ s.partState = .offline ∨ s.partState = .quiesced := by
  simp [State.takesConfiguration]

/-- The fields out of range, word by word (R162). -/
theorem not_fieldsInRange_iff (w : ConfigWord) (v : Word) :
    ¬ FieldsInRange w v ↔
      match w with
      | .memorySize => ¬ (26 ≤ field v 5 0 ∧ field v 5 0 ≤ 40)
      | .port _ => ¬ (4 ≤ field v 13 8 ∧ field v 13 8 ≤ 40)
      | .banks => field v 1 0 = 3 ∨ ¬ (6 ≤ field v 12 8 ∧ field v 12 8 ≤ 20)
      | .lifetimes => field v 9 0 = 0 ∨ field v 25 16 = 0
      | .completionTimeout => field v 15 0 = 0
      | .scheduling => field v 4 0 = 0 ∨ field v 11 8 = 0 := by
  cases w <;> simp only [FieldsInRange] <;> omega

/-- Settles O39, by the part state and then by the range of the fields. -/
theorem configurationWriteDeniedWhole : Obligations.ConfigurationWriteDeniedWhole := by
  intro s w v hpor hdenied
  rw [exec_configurationWrite hpor]
  rcases writeConfiguration_cases s w v with ⟨htakes, hw, -⟩ | ⟨-, h⟩
  · rw [s.takesConfiguration_iff] at htakes
    obtain honline | hdraining | hrange := hdenied
    · simp [honline] at htakes
    · simp [hdraining] at htakes
    · exact absurd hw ((not_fieldsInRange_iff w v).mpr (by cases w <;> exact hrange))
  · rw [h]
    rfl

theorem storeConfiguration_port (s : State) (c : Configuration) (p : Port) :
    (s.storeConfiguration c).ports[p] = s.ports[p].reconfigured s.config.ports[p] c.ports[p] := by
  simp [State.storeConfiguration]

/-- A port stands by its enable from the write that changes it, and keeps its responses (R136). -/
theorem PortRecord.reconfigured_eq (r : PortRecord) (before after : PortConfig) :
    r.reconfigured before after =
      if after.enable = before.enable then r else ⟨if after.enable then .active else .disabled, r.responses⟩ := by
  simp only [PortRecord.reconfigured, stateByEnable, eq_comm]

/-- A write of one word leaves every other word (R168). -/
theorem stored_word_of_ne (c : Configuration) {w w' : ConfigWord} (h : w' ≠ w) (v : Word) :
    (c.stored w v).word w' = c.word w' := by
  cases w with
  | port p =>
    cases w' with
    | port q =>
      have hne : p ≠ q := fun heq => h (heq ▸ rfl)
      simp only [Configuration.word, Configuration.stored, vector_set_get, if_neg hne]
    | _ => rfl
  | memorySize =>
    cases w' with
    | memorySize => exact absurd rfl h
    | _ => rfl
  | banks =>
    cases w' with
    | banks => exact absurd rfl h
    | _ => rfl
  | lifetimes =>
    cases w' with
    | lifetimes => exact absurd rfl h
    | _ => rfl
  | completionTimeout =>
    cases w' with
    | completionTimeout => exact absurd rfl h
    | _ => rfl
  | scheduling =>
    cases w' with
    | scheduling => exact absurd rfl h
    | _ => rfl

/-- Settles O40: the word in range is stored whole, and the records, the ports and the frame follow from what is stored. -/
theorem configurationWriteTakenWhole : Obligations.ConfigurationWriteTakenWhole := by
  intro s w v hpor htaking hrange c
  have hw : FieldsInRange w v := by cases w <;> exact hrange
  have hc : c = s.config.stored w v := by cases w <;> rfl
  have hstored : s.writeConfiguration w v = (s.storeConfiguration c).endFrame .ok [] := by
    rcases writeConfiguration_cases s w v with ⟨-, -, h⟩ | ⟨hnot, -⟩
    · rw [h, hc]
    · exact absurd ⟨s.takesConfiguration_iff.mpr htaking, hw⟩ hnot
  refine ⟨(s.storeConfiguration c).endFrame .ok [], ?_, ?_, rfl, fun w' hne => ?_,
    storeConfiguration_reservation s c, fun p => ?_, rfl⟩
  · rw [exec_configurationWrite hpor, hstored]
  · rw [hc]
    exact s.config.write_of_inRange hw
  · rw [hc]
    exact stored_word_of_ne s.config hne v
  · exact (storeConfiguration_port s c p).trans (PortRecord.reconfigured_eq _ _ _)

end Sys2Proof.Machine
end

section
namespace Sys2Proof.Machine

open Sys2Proof

/-! ## Power-on (R131, R154) -/

/-- Settles O4: the items of the configuration and the records of each table at power-on, read off `State.reset`. -/
theorem powerOnValues : Obligations.PowerOnValues := by
  have hconfig : ∀ p : Port, Configuration.powerOn.ports[p] = ⟨false, .line, 16⟩ := fun p => by
    simp [Configuration.powerOn]
  refine ⟨rfl, rfl, rfl, rfl, rfl, rfl, rfl, rfl, rfl, rfl, rfl, rfl, fun p => ⟨hconfig p, ?_⟩, rfl, fun h => ?_,
    fun g => ?_, rfl, fun b => ?_, rfl, fun t => ?_, rfl, rfl, rfl, rfl, rfl, rfl, rfl, rfl, by decide, rfl⟩
  all_goals simp [State.reset]

/-- Settles O5, by whether POR_n is asserted when its deassertion comes. -/
theorem powerOnAssertionAndRelease : Obligations.PowerOnAssertionAndRelease := by
  intro s
  exact ⟨rfl, fun hheld => congrArg Host.Outcome.next (if_pos hheld),
    fun hreleased => congrArg Host.Outcome.next (if_neg (Bool.eq_false_iff.mp hreleased))⟩

/-! ## Every law holds at the end of power-on -/

theorem tagLaw_of_free {s : State} (ht : ∀ t : Tag, s.tags[t] = .free) (he : s.entries = []) : TagLaw s := by
  simp [TagLaw, ht, he]

theorem bankLaw_of_idle {s : State} (hb : ∀ b : BankNo, s.banks[b] = .idle) (he : s.entries = []) : BankLaw s := by
  simp [BankLaw, hb, he]

theorem noticeLaw_of_empty {s : State} (h : s.notices.entries = []) : NoticeLaw s := by
  simp [NoticeLaw, h]

theorem faultLaw_of_empty {s : State} (h : s.faults = []) : FaultLaw s := by
  simp [FaultLaw, h]

theorem responseLaw_of_empty {s : State} (h : ∀ p : Port, s.ports[p].responses = []) : ResponseLaw s := fun p => by
  rw [h p]; exact Nat.zero_le _

/-- Settles O50: the laws of the table hold of an empty table, and each other law of the block as power-on leaves it. -/
theorem lawsHoldAtPowerOn : Obligations.LawsHoldAtPowerOn := by
  have hports : ∀ p : Port, State.reset.ports[p] = ⟨.disabled, []⟩ := fun p => by simp [State.reset]
  have htags : ∀ t : Tag, State.reset.tags[t] = .free := fun t => by simp [State.reset]
  have hbanks : ∀ b : BankNo, State.reset.banks[b] = .idle := fun b => by simp [State.reset]
  have hempty : State.reset.entries = [] := rfl
  obtain ⟨harrival, hkind, hline⟩ := lineLaws_happening.empty hempty
  obtain ⟨htable, hbypass⟩ := bypassLaw_happening.empty hempty
  obtain ⟨-, -, hdue⟩ := nothingDueLaw_happening.empty hempty
  exact ⟨noticeLaw_of_empty rfl, faultLaw_of_empty rfl, responseLaw_of_empty fun p => by rw [hports p], .refl _,
    configurationLaw_of_powerOn rfl, failureLaw_of_idle rfl, .of_empty rfl hempty, htable, hbypass, harrival,
    portTagLaw_happening.empty hempty, hline, hkind, hdue, tagLaw_of_free htags hempty, bankLaw_of_idle hbanks hempty,
    .of_empty hempty fun p => by simp [hports p], fun _ => htags⟩

end Sys2Proof.Machine
end

/-! # The management link and notices (10_management_link_and_notices.md) -/

section
namespace Sys2Proof.Machine

open Sys2Proof

/-! ## Posts (R173, R174, R176) -/

theorem Notice.isOf_iff (n : Notice) (k : NoticeKind) (p : Option Port) : n.isOf k p = true ↔ n.kind = k ∧ n.port = p := by
  simp [Notice.isOf]

theorem NoticeQueue.any_isOf_iff (q : NoticeQueue) (k : NoticeKind) (p : Option Port) :
    q.entries.any (fun n => n.isOf k p) = true ↔ ∃ n ∈ q.entries, n.kind = k ∧ n.port = p := by
  simp only [List.any_eq_true, Notice.isOf_iff]

theorem NoticeQueue.any_isOf_eq_false_iff (q : NoticeQueue) (k : NoticeKind) (p : Option Port) :
    q.entries.any (fun n => n.isOf k p) = false ↔ ∀ n ∈ q.entries, ¬ (n.kind = k ∧ n.port = p) := by
  simp only [List.any_eq_false, Notice.isOf_iff]

/-- Settles O49, by the four outcomes of a post. -/
theorem postCoalescesOrQueuesOrOverflows : Obligations.PostCoalescesOrQueuesOrOverflows := by
  intro s k p d t
  refine ⟨fun hmasked => ?_, fun hmask => ⟨fun hqueued => ?_, fun hnew => ⟨fun hroom => ?_, fun hfull => ?_⟩⟩⟩
  · exact congrArg (fun q => { s with notices := q }) (s.notices.post_masked k p d hmasked)
  · have hposted := s.notices.post_coalesces k p d hmask ((s.notices.any_isOf_iff k p).mpr hqueued)
    simp only [Notice.isOf_iff] at hposted
    exact congrArg (fun q => { s with notices := q }) hposted
  · exact congrArg (fun q => { s with notices := q })
      (s.notices.post_new k p d hmask ((s.notices.any_isOf_eq_false_iff k p).mpr hnew) hroom)
  · exact congrArg (fun q => { s with notices := q })
      (s.notices.post_overflows k p d hmask ((s.notices.any_isOf_eq_false_iff k p).mpr hnew) hfull)

end Sys2Proof.Machine
end

section
namespace Sys2Proof.Machine

open Sys2Proof

/-! ## The bounds of the collections (R68, R99, R135, R173)

One relation carries four facts through every operation: a bound that the notice queue, the fault list, the response queues
or the grant order list met is met afterwards. The proofs turn on the four operations that add to a collection: a post, the
recording of a fault, the placing of a response, and a dispatch. -/

/-- From s to t each collection that met its law still meets it. -/
structure Bounded (s t : State) : Prop where
  notices : NoticeLaw s → NoticeLaw t
  faults : FaultLaw s → FaultLaw t
  responses : ResponseLaw s → ResponseLaw t
  grants : GrantLaw s → GrantLaw t

/-- Entries that leave the queue leave the law as it is. -/
theorem NoticeLaw.of_sublist {s t : State} (hs : NoticeLaw s) (h : t.notices.entries.Sublist s.notices.entries) :
    NoticeLaw t := by
  obtain ⟨hlen, hdistinct, hcount⟩ := hs
  exact ⟨h.length_le.trans hlen, hdistinct.sublist h, fun n hn => hcount n (h.mem hn)⟩

theorem NoticeLaw.of_eq {s t : State} (hs : NoticeLaw s) (h : t.notices.entries = s.notices.entries) : NoticeLaw t :=
  hs.of_sublist (h ▸ .refl _)

theorem FaultLaw.of_eq {s t : State} (hs : FaultLaw s) (h : t.faults = s.faults) : FaultLaw t := by
  unfold FaultLaw; rw [h]; exact hs

theorem GrantLaw.of_eq {s t : State} (hs : GrantLaw s) (h : t.grantOrder = s.grantOrder) : GrantLaw t := by
  unfold GrantLaw; rw [h]; exact hs

/-- No queue grows: the bound on the responses stays. -/
theorem ResponseLaw.of_le {s t : State} (hs : ResponseLaw s)
    (h : ∀ p : Port, t.ports[p].responses.length ≤ s.ports[p].responses.length) : ResponseLaw t :=
  fun p => (h p).trans (hs p)

namespace Bounded

variable {s t u : State}

theorem of_eq (hn : t.notices.entries = s.notices.entries) (hf : t.faults = s.faults) (hp : t.ports = s.ports)
    (hg : t.grantOrder = s.grantOrder) : Bounded s t :=
  ⟨fun h => h.of_eq hn, fun h => h.of_eq hf, fun h => h.of_le fun p => by rw [hp], fun h => h.of_eq hg⟩

theorem refl (s : State) : Bounded s s := of_eq rfl rfl rfl rfl

theorem trans (h : Bounded s t) (k : Bounded t u) : Bounded s u :=
  ⟨fun hs => k.notices (h.notices hs), fun hs => k.faults (h.faults hs), fun hs => k.responses (h.responses hs),
    fun hs => k.grants (h.grants hs)⟩

/-- A change of the ports alone in which no response queue grows. -/
theorem of_ports (hn : t.notices = s.notices) (hf : t.faults = s.faults) (hg : t.grantOrder = s.grantOrder)
    (hp : ∀ p : Port, t.ports[p].responses.length ≤ s.ports[p].responses.length) : Bounded s t :=
  ⟨fun h => h.of_eq (by rw [hn]), fun h => h.of_eq hf, fun h => h.of_le hp, fun h => h.of_eq hg⟩

/-- The collections at their reset values. -/
theorem of_reset (hn : t.notices.entries = []) (hf : t.faults = []) (hp : ∀ p : Port, t.ports[p].responses = [])
    (hg : t.grantOrder = resetGrantOrder) : Bounded s t :=
  ⟨fun _ => noticeLaw_of_empty hn, fun _ => faultLaw_of_empty hf, fun _ => responseLaw_of_empty hp,
    fun _ => by unfold GrantLaw; rw [hg]; exact .refl _⟩

/-- The end of a command's frame changes the link interface's own words alone. -/
theorem endCommand (h : Bounded s t) (code : Byte) (r : CommandResult) : Bounded s (t.endCommand code r) :=
  h.trans (.of_eq rfl rfl rfl rfl)

end Bounded

/-! ### A post (R173, R174) -/

/-- A raised count stays between 1 and 255. -/
theorem Notice.raised_count_le {n : Notice} (h : 1 ≤ n.count ∧ n.count ≤ Config.noticeCountMax) :
    1 ≤ n.raised.count ∧ n.raised.count ≤ Config.noticeCountMax := by
  simp only [Notice.raised]; split <;> omega

theorem NoticeLaw.post {s : State} (hs : NoticeLaw s) (k : NoticeKind) (p : Option Port) (d : Detail) :
    NoticeLaw (s.post k p d) := by
  obtain ⟨hlen, hdistinct, hcount⟩ := hs
  unfold NoticeLaw
  rw [State.post_notices]
  rcases s.notices.post_cases k p d with h | h | ⟨hnew, hroom, h⟩ | h <;> rw [h]
  · exact ⟨hlen, hdistinct, hcount⟩
  · refine ⟨by simpa using hlen, ?_, fun n hn => ?_⟩
    · refine List.pairwise_map.mpr (hdistinct.imp fun {a b} hab => ?_)
      split <;> split <;> exact hab
    · obtain ⟨m, hm, rfl⟩ := List.mem_map.mp hn
      split
      · exact Notice.raised_count_le (hcount m hm)
      · exact hcount m hm
  · refine ⟨by simpa using hroom, ?_, fun n hn => ?_⟩
    · rw [List.pairwise_append]
      refine ⟨hdistinct, List.pairwise_singleton _ _, fun a ha b hb hab => ?_⟩
      obtain rfl := List.mem_singleton.mp hb
      exact (s.notices.any_isOf_eq_false_iff k p).mp hnew a ha hab
    · rcases List.mem_append.mp hn with hn | hn
      · exact hcount n hn
      · obtain rfl := List.mem_singleton.mp hn
        exact ⟨le_rfl, Nat.le_of_ble_eq_true rfl⟩
  · exact ⟨hlen, hdistinct, hcount⟩

theorem post_bounded (s : State) (k : NoticeKind) (p : Option Port) (d : Detail) : Bounded s (s.post k p d) :=
  ⟨fun h => h.post k p d, fun h => h.of_eq rfl, fun h => h.of_le fun _ => le_rfl, fun h => h.of_eq rfl⟩

/-! ### The fault list (R68, R75, R79, R80) -/

theorem listFault_bounded (s : State) (l : Line) (c : FaultCause) (p : Port) : Bounded s (s.listFault l c p) := by
  rcases s.listFault_cases l c p with h | ⟨hnew, hroom, h⟩ | h <;> rw [h]
  · exact .refl s
  · refine Bounded.trans (t := { s with faults := s.faults ++ [⟨l, c, p⟩] }) ?_ (post_bounded _ _ _ _)
    refine ⟨fun h => h.of_eq rfl, fun ⟨_, hdistinct⟩ => ⟨by simpa using hroom, ?_⟩, fun h => h.of_le fun _ => le_rfl,
      fun h => h.of_eq rfl⟩
    rw [List.pairwise_append]
    refine ⟨hdistinct, List.pairwise_singleton _ _, fun a ha b hb => ?_⟩
    obtain rfl := List.mem_singleton.mp hb
    exact (s.listed_eq_false_iff l).mp hnew a ha
  · exact post_bounded s _ _ _

theorem recordFault_bounded (s : State) (l : Line) (c : FaultCause) (p : Port) : Bounded s (s.recordFault l c p) :=
  (listFault_bounded s l c p).trans (.of_eq rfl rfl rfl rfl)

theorem clearLine_bounded (s : State) (l : Line) : Bounded s (s.clearLine l) :=
  ⟨fun h => h.of_eq rfl, fun ⟨hlen, hdistinct⟩ => ⟨(List.length_filter_le _ _).trans hlen, hdistinct.filter _⟩,
    fun h => h.of_le fun _ => le_rfl, fun h => h.of_eq rfl⟩

/-! ### Responses (R20, R135, R139, R145) -/

theorem reportEmpty_bounded (s : State) : Bounded s s.reportEmpty := by
  rcases s.reportEmpty_cases with ⟨-, h⟩ | ⟨-, h⟩ <;> rw [h]
  · exact Bounded.trans (t := { s with partState := .quiesced }) (.of_eq rfl rfl rfl rfl) (post_bounded _ _ _ _)
  · exact .refl s

theorem setEntries_bounded (s : State) (es : List Entry) : Bounded s (s.setEntries es) := .of_eq rfl rfl rfl rfl

theorem setReservation_bounded (s : State) (h : Holder) (r : Reservation) : Bounded s (s.setReservation h r) :=
  .of_eq rfl rfl rfl rfl

theorem removeEntries_bounded (s : State) (gone : Entry → Bool) : Bounded s (s.removeEntries gone) := by
  rcases s.removeEntries_cases gone with h | ⟨-, h⟩ <;> rw [h]
  · exact setEntries_bounded s _
  · exact (setEntries_bounded s []).trans (reportEmpty_bounded _)

namespace Bounded

variable {s t : State}

/-- A response is placed where a place is free, or where the law of the state before the happening frees one. -/
theorem placeResponse (h : Bounded s t) {p : Port} (hplace : ResponseLaw s → t.hasPlace p = true) (r : Response) :
    Bounded s (t.placeResponse p r) := by
  refine ⟨h.notices, h.faults, fun hs q => ?_, h.grants⟩
  rw [State.placeResponse_get]
  split
  · rw [List.length_append]
    exact (t.hasPlace_iff p).mp (hplace hs)
  · exact h.responses hs q

theorem placeEntry (h : Bounded s t) {e : Entry} (hplace : ResponseLaw s → t.hasPlace e.port = true) :
    Bounded s (t.placeEntry e) := by
  unfold State.placeEntry
  split
  · exact (h.placeResponse hplace _).trans (removeEntries_bounded _ _)
  all_goals exact h

end Bounded

theorem placeIfRoom_bounded (s : State) (n : Nat) : Bounded s (s.placeIfRoom n) := by
  unfold State.placeIfRoom
  split
  · exact .refl s
  · split
    · exact (Bounded.refl s).placeEntry fun _ => ‹_›
    · exact .refl s

theorem answer_bounded (s : State) (n : Nat) (st : Status) (d : Option Data) : Bounded s (s.answer n st d) :=
  Bounded.trans (t := s.markAnswered n st d) (.of_eq rfl rfl rfl rfl) (placeIfRoom_bounded _ n)

/-! ### The checks of a happening (R9 to R16, R34 to R39, R51, R52) -/

theorem releaseGuard_bounded (s : State) (g : GuardNo) : Bounded s (s.releaseGuard g) := .of_eq rfl rfl rfl rfl

theorem makeReady_bounded (s : State) (e : Entry) : Bounded s (s.makeReady e) := .of_eq rfl rfl rfl rfl

theorem escalate_bounded (s : State) (h : Holder) (l : Line) : Bounded s (s.escalate h l) := by
  rcases s.escalate_cases h l with ⟨why, he⟩ | ⟨g, -, -, he⟩ <;> rw [he]
  · exact post_bounded s _ _ _
  · exact Bounded.trans (t := s.setGuard g _) (.of_eq rfl rfl rfl rfl) (post_bounded _ _ _ _)

theorem passJudgement_bounded (s : State) (e : Entry) (l : Line) : Bounded s (s.passJudgement e l) := by
  cases hown : s.ownGuard (holderOf e.port e.context) l with
  | some g => rw [passJudgement_of_owner hown]; exact .of_eq rfl rfl rfl rfl
  | none => rw [passJudgement_of_no_guard hown]; exact .of_eq rfl rfl rfl rfl

theorem failAsOwner_bounded (s : State) (e : Entry) (g : GuardNo) : Bounded s (s.failAsOwner e g) :=
  ((setReservation_bounded s _ _).trans (releaseGuard_bounded _ g)).trans (answer_bounded _ _ _ _)

theorem failJudgement_bounded (s : State) (e : Entry) (l : Line) : Bounded s (s.failJudgement e l) := by
  have hfailed : Bounded s (s.failed e) := .of_eq rfl rfl rfl rfl
  rw [failJudgement_eq]
  split
  · exact (hfailed.trans (escalate_bounded _ _ _)).trans (placeIfRoom_bounded _ _)
  · exact hfailed.trans (placeIfRoom_bounded _ _)

theorem judge_bounded (s : State) (e : Entry) (l : Line) : Bounded s (s.judge e l) := by
  unfold State.judge
  dsimp only
  split
  · exact passJudgement_bounded s e l
  · split
    · exact failAsOwner_bounded s e _
    · exact failJudgement_bounded s e l

theorem examine_bounded (s : State) (e : Entry) : Bounded s (s.examine e) := by
  unfold State.examine
  split
  · exact answer_bounded s _ _ _
  · split
    · exact answer_bounded s _ _ _
    · split
      · exact judge_bounded s e _
      · exact makeReady_bounded s e

theorem settle_bounded (s : State) : Bounded s s.settle :=
  settle_keeps (Bounded s) (fun _ h => h.trans (.of_eq rfl rfl rfl rfl)) (fun t e _ _ h => h.trans (examine_bounded t e)) s
    (.refl s)

/-! ### Port resets and the ports' messages (R139, R145, R146) -/

/-- The ports as a port reset leaves them: a queue is emptied, and a port's state is no response. -/
theorem setPort_bounded {s : State} {p : Port} {r : PortRecord}
    (h : r.responses.length ≤ s.ports[p].responses.length) : Bounded s (s.setPort p r) :=
  .of_ports rfl rfl rfl fun q => by
    rw [State.setPort_get]
    split
    · subst q; exact h
    · exact le_rfl

theorem endFencing_bounded (s : State) (p : Port) : Bounded s (s.endFencing p) := by
  rcases s.endFencing_cases p with ⟨-, -, h⟩ | ⟨-, h⟩ <;> rw [h]
  · exact Bounded.trans (setPort_bounded (by exact le_rfl)) (post_bounded _ _ _ _)
  · exact .refl s

theorem releaseOwned_bounded (s : State) (p : Port) : Bounded s (s.releaseOwned p) :=
  List.foldlRecOn (motive := Bounded s) allGuards (State.releaseIfOwned p) (.refl s) fun t ht g _ => by
    unfold State.releaseIfOwned
    split
    · exact ht.trans (releaseGuard_bounded t g)
    · exact ht

theorem resetPort_bounded (s : State) (p : Port) : Bounded s (s.resetPort p) := by
  have hcleared : Bounded s (s.clearPort p) :=
    (setPort_bounded (r := ⟨.fenced, []⟩) (Nat.zero_le _)).trans (.of_eq rfl rfl rfl rfl)
  have horphaned : Bounded s ((s.clearPort p).orphanPort p) :=
    hcleared.trans ((setEntries_bounded _ _).trans (removeEntries_bounded _ _))
  exact (((horphaned.trans (settle_bounded _)).trans (releaseOwned_bounded _ p)).trans (settle_bounded _)).trans
    (endFencing_bounded _ p)

theorem commandPortReset_bounded (s : State) (args : CommandArguments) : Bounded s (s.commandPortReset args).1 := by
  unfold State.commandPortReset
  cases namedPort args with
  | some p => dsimp only; exact resetPort_bounded s p
  | none => exact .refl s

theorem takeRequest_bounded {s : State} {p : Port} (h : s.hasPlace p = true) (m : Request) :
    Bounded s (s.takeRequest p m) := by
  unfold State.takeRequest
  split
  · rw [State.accept_eq]
    exact Bounded.trans (t := s.enter p m) (.of_eq rfl rfl rfl rfl) (settle_bounded _)
  · dsimp only
    split
    · exact ((Bounded.refl s).placeResponse (fun _ => h) _).trans (post_bounded _ _ _ _)
    · exact (Bounded.refl s).placeResponse (fun _ => h) _

theorem takeFromWires_bounded (s : State) (p : Port) : Bounded s (s.takeFromWires p) := by
  unfold State.takeFromWires
  split
  · exact .refl s
  · split
    · rename_i m rest _ hplace
      exact Bounded.trans (t := { s with wires := s.wires.set p rest }) (.of_eq rfl rfl rfl rfl)
        (takeRequest_bounded (by exact hplace) m)
    · exact .refl s

/-- The place that a delivery frees is the one that the waiting answer takes. -/
theorem deliver_bounded (s : State) (p : Port) : Bounded s (s.deliver p) := by
  cases hr : s.ports[p].responses with
  | nil => rw [deliver_of_nil hr]; exact .refl s
  | cons r rest =>
    rw [deliver_of_cons hr]
    have hget : ∀ q : Port, (s.delivering p r rest).ports[q] = if p = q then ⟨s.ports[p].state, rest⟩ else s.ports[q] :=
      fun q => s.setPort_get p q ⟨s.ports[p].state, rest⟩
    have htaken : Bounded s (s.delivering p r rest) := .of_ports rfl rfl rfl fun q => by
      rw [hget]
      split
      · subst q; rw [hr]; exact Nat.le_succ _
      · exact le_rfl
    unfold State.fillPlace
    split
    · exact htaken
    · rename_i e he
      obtain ⟨-, hp, -⟩ := firstAnswered_mem he
      refine htaken.placeEntry fun hs => (State.hasPlace_iff _ _).mpr ?_
      have hfull := hs p
      rw [hr] at hfull
      rw [hp, hget, if_pos rfl]
      exact hfull

/-! ### The scheduler and the downstream link (R104, R105, R120, R124, R129) -/

/-- A port that moves to the tail leaves the list one of the six ports (R99, R105). -/
theorem GrantLaw.moveToTail {s : State} (hs : GrantLaw s) (p : Port) : (moveToTail p s.grantOrder).Perm allPorts := by
  obtain ⟨before, after, hsplit⟩ := List.append_of_mem (hs.mem p)
  have hnodup := hs.nodup
  rw [hsplit] at hnodup
  rw [hsplit, moveToTail_of_nodup hnodup]
  calc before ++ after ++ [p]
    _ |>.Perm (p :: (before ++ after)) := List.perm_append_singleton _ _
    _ |>.Perm (before ++ p :: after) := List.perm_middle.symm
    _ |>.Perm allPorts := hsplit ▸ hs

theorem dispatch_bounded (s : State) : Bounded s s.dispatch := by
  unfold State.dispatch
  split
  · split
    · rename_i k e _ _
      split
      · rename_i l _
        have hbound : Bounded s (s.bind e l k) :=
          ⟨fun h => h.of_eq rfl, fun h => h.of_eq rfl, fun h => h.of_le fun _ => le_rfl, fun h => h.moveToTail e.port⟩
        have hreserved : Bounded (s.bind e l k) ((s.bind e l k).dispatchReservation e l) := by
          rw [dispatchReservation_frame]; exact .of_eq rfl rfl rfl rfl
        exact (hbound.trans hreserved).trans (settle_bounded _)
      · exact .refl s
    all_goals exact .refl s
  · exact .refl s

theorem endReserve_bounded (s : State) (e : Entry) (l : Line) : Bounded s (s.endReserve e l) := by
  rw [State.endReserve_eq]; exact .of_eq rfl rfl rfl rfl

theorem faultWrite_bounded (s : State) (e : Entry) (l : Line) (c : FaultCause) : Bounded s (s.faultWrite e l c) := by
  unfold State.faultWrite
  split
  · exact recordFault_bounded s l c e.port
  · exact .refl s

theorem endOperation_bounded (s : State) (e : Entry) (st : Status) (d : Option Data) : Bounded s (s.endOperation e st d) := by
  unfold State.endOperation
  split
  · have hleft := setEntries_bounded s (s.entries.filter fun x => x.arrival != e.arrival)
    have hfenced := (hleft.trans (settle_bounded _)).trans (endFencing_bounded _ e.port)
    dsimp only
    split
    · exact hfenced.trans (reportEmpty_bounded _)
    · exact hfenced
  · exact (answer_bounded s e.arrival st d).trans (settle_bounded _)

theorem completeFault_bounded (s : State) (e : Entry) (l : Line) (o : CompletionOutcome) :
    Bounded s (s.completeFault e l o) := by
  cases o with
  | dataError => exact recordFault_bounded s l _ e.port
  | doneCorrected =>
    unfold State.completeFault
    dsimp only
    split
    · exact post_bounded s _ _ _
    · split
      · exact clearLine_bounded s l
      · exact .refl s
  | done =>
    unfold State.completeFault
    dsimp only
    split
    · exact clearLine_bounded s l
    · exact .refl s

theorem completeReserve_bounded (s : State) (e : Entry) (l : Line) (o : CompletionOutcome) :
    Bounded s (s.completeReserve e l o) := by
  unfold State.completeReserve
  split
  · exact endReserve_bounded s e l
  · exact .refl s

theorem giveBack_bounded (s : State) (t : Tag) (r : TagRecord) (l : Line) : Bounded s (s.giveBack t r l) :=
  .of_eq rfl rfl rfl rfl

theorem completeEntry_bounded (s : State) (t : Tag) (e : Entry) (l : Line) (m : Completion) :
    Bounded s (s.completeEntry t e l m) :=
  (((giveBack_bounded s t .free l).trans (completeReserve_bounded _ e l _)).trans (completeFault_bounded _ e l _)).trans
    (endOperation_bounded _ e _ _)

theorem complete_bounded (s : State) (m : Completion) : Bounded s (s.complete m) := by
  have hfreed : ∀ t : Tag, Bounded s (s.setTag t .free) := fun t => .of_eq rfl rfl rfl rfl
  unfold State.complete
  split
  · unfold State.completeTag
    split
    · exact post_bounded s _ _ _
    · exact (hfreed _).trans (post_bounded _ _ _ _)
    · split
      · exact hfreed _
      · split
        · exact hfreed _
        · exact completeEntry_bounded s _ _ _ m
  · exact post_bounded s _ _ _

theorem timeOutEntry_bounded (s : State) (t : Tag) (e : Entry) (l : Line) : Bounded s (s.timeOutEntry t e l) :=
  ((((giveBack_bounded s t (.quarantined (operationOf e.kind) l e.port) l).trans (endReserve_bounded _ e l)).trans
    (faultWrite_bounded _ e l .writeTimeout)).trans (endOperation_bounded _ e .timeout none)).trans (post_bounded _ _ _ _)

theorem timeOut_bounded (s : State) (t : Tag) : Bounded s (s.timeOut t) := by
  unfold State.timeOut
  split
  · exact .refl s
  · exact .refl s
  · split
    · exact .refl s
    · split
      · exact .refl s
      · exact timeOutEntry_bounded s t _ _

theorem linkAbort_bounded (s : State) : Bounded s s.linkAbort := by
  have hbroken : Bounded s s.breakAborted := List.foldlRecOn (motive := Bounded s) s.outstanding _ (.refl s)
    fun t ht e _ => onLine_keeps (fun u e l hu => hu.trans (endReserve_bounded u e l)) t e ht
  have hrecorded : Bounded s s.abortRecorded := List.foldlRecOn (motive := Bounded s) s.outstanding _ hbroken
    fun t ht e _ => onLine_keeps (fun u e l hu => hu.trans (faultWrite_bounded u e l .writeAborted)) t e ht
  have hended : Bounded s (s.abortRecorded.endAborted s.outstanding) :=
    List.foldlRecOn (motive := Bounded s) s.outstanding _ hrecorded fun t ht e _ =>
      ht.trans (endOperation_bounded t e .aborted none)
  exact (hended.trans (post_bounded _ .linkDown none .none)).trans (.of_eq rfl rfl rfl rfl)

theorem signalDown_bounded (s : State) : Bounded s s.signalDown := by
  unfold State.signalDown
  split
  · exact linkAbort_bounded s
  · exact .refl s

/-! ### Timers, commands and frames -/

theorem expireReservation_bounded (s : State) (h : Holder) : Bounded s (s.expireReservation h) := by
  unfold State.expireReservation; split <;> exact .of_eq rfl rfl rfl rfl

theorem expireGuard_bounded (s : State) (g : GuardNo) : Bounded s (s.expireGuard g) := by
  unfold State.expireGuard
  split
  · exact .refl s
  · exact (((setReservation_bounded s _ _).trans (post_bounded _ _ _ _)).trans (releaseGuard_bounded _ g)).trans
      (settle_bounded _)

theorem expireRecovery_bounded (s : State) (b : BankNo) : Bounded s (s.expireRecovery b) := by
  unfold State.expireRecovery; split <;> exact .of_eq rfl rfl rfl rfl

theorem goOnline_bounded (s : State) : Bounded s s.goOnline.1 := by
  have hcheck : Bounded s s.checkOnline.1 := by
    unfold State.checkOnline; split <;> exact .of_eq rfl rfl rfl rfl
  unfold State.goOnline
  split
  · exact hcheck
  · exact hcheck
  · exact .of_eq rfl rfl rfl rfl
  · exact .refl s

theorem drain_bounded (s : State) : Bounded s s.drain.1 := by
  have hmoved : ∀ ps : PartState, Bounded s { s with partState := ps } := fun _ => .of_eq rfl rfl rfl rfl
  unfold State.drain
  split
  · split
    · exact (hmoved .quiesced).trans (post_bounded _ _ _ _)
    · exact hmoved .draining
  all_goals exact .refl s

theorem powerOn_bounded (s : State) : Bounded s { s.powerOn with porAsserted := true } :=
  .of_reset rfl rfl (fun p => by simp [State.powerOn, State.reset]) rfl

theorem fullReset_bounded (s : State) : Bounded s s.fullReset :=
  .of_reset rfl rfl (fun p => congrArg PortRecord.responses (resetPorts_get s.config p)) rfl

theorem clearFault_bounded (s : State) (l : Line) : Bounded s (s.clearFault l).1 := by
  unfold State.clearFault
  split
  · exact clearLine_bounded s l
  · exact .refl s

theorem clearAllFaults_bounded (s : State) : Bounded s { s with faults := [] } :=
  ⟨fun h => h.of_eq rfl, fun _ => faultLaw_of_empty rfl, fun h => h.of_le fun _ => le_rfl, fun h => h.of_eq rfl⟩

theorem releasePower_bounded (s : State) : Bounded s s.releasePower := by
  unfold State.releasePower; split <;> exact .of_eq rfl rfl rfl rfl

theorem writeSelector_bounded (s : State) (v : Word) : Bounded s (s.writeSelector v) := by
  unfold State.writeSelector; split <;> exact .of_eq rfl rfl rfl rfl

theorem writeOther_bounded (s : State) (w : OtherWord) (v : Word) : Bounded s (s.writeOther w v) := by
  cases w <;> exact .of_eq rfl rfl rfl rfl

/-- A port that a write enables or disables keeps its responses (R136). -/
theorem writeConfiguration_bounded (s : State) (w : ConfigWord) (v : Word) : Bounded s (s.writeConfiguration w v) := by
  rcases writeConfiguration_cases s w v with ⟨-, -, h⟩ | ⟨-, h⟩ <;> rw [h]
  · refine Bounded.trans (t := s.storeConfiguration (s.config.stored w v)) ?_ (.of_eq rfl rfl rfl rfl)
    refine .of_ports rfl rfl rfl fun p => ?_
    rw [storeConfiguration_port, PortRecord.reconfigured_eq]
    split <;> exact le_rfl
  · exact .of_eq rfl rfl rfl rfl

theorem popNotice_bounded (s : State) : Bounded s s.popNotice := by
  unfold State.popNotice
  split
  · exact .of_eq rfl rfl rfl rfl
  · rename_i n rest hcons
    refine ⟨fun h => h.of_sublist ?_, fun h => h.of_eq rfl, fun h => h.of_le fun _ => le_rfl, fun h => h.of_eq rfl⟩
    exact hcons ▸ List.sublist_cons_self n rest

theorem readFrame_bounded (s : State) (a : Byte) (n : Nat) : Bounded s (s.readFrame a n) := by
  have hread : ∀ t : State, Bounded t (t.readEffect a) := fun t => by
    unfold State.readEffect
    split
    · exact popNotice_bounded t
    · exact .of_eq rfl rfl rfl rfl
    · exact .refl t
  have hshifted : Bounded s (s.shiftOut ((bytesOf (s.wordAt a)).take n)) := .of_eq rfl rfl rfl rfl
  unfold State.readFrame
  dsimp only
  split
  · exact (hshifted.trans (hread _)).trans (.of_eq rfl rfl rfl rfl)
  · exact hshifted.trans (hread _)

theorem quietFrame_bounded (s : State) (f : QuietFrame) : Bounded s (s.quietFrame f) := by
  cases f with
  | read a n => exact readFrame_bounded s a n
  | _ => exact .of_eq rfl rfl rfl rfl

/-! ### Every step -/

theorem unlessHeld_bounded {f : State → State} {s t : State}
    (ht : (Host.Outcome.next (s.unlessHeld f) : Host.Outcome State Fault Refusal) = .next t) (hf : Bounded s (f s)) :
    Bounded s t := keeps_unlessHeld ht (.refl s) hf

theorem exec_bounded {c : Instr} {s t : State} (ht : exec c s = .next t) : Bounded s t := by
  cases hwf : c.wellFormed with
  | false => rw [exec_of_illFormed hwf] at ht; cases ht
  | true =>
    cases c with
    | porNAsserted => cases ht; exact powerOn_bounded s
    | porNDeasserted => cases ht; exact releasePower_bounded s
    | prstNAsserted p => exact unlessHeld_bounded ht (resetPort_bounded s p)
    | request p m =>
      exact Bounded.trans (t := s.present p m) (.of_eq rfl rfl rfl rfl) (unlessHeld_bounded ht (takeFromWires_bounded _ p))
    | delivery p => exact unlessHeld_bounded ht (deliver_bounded s p)
    | dispatch => exact unlessHeld_bounded ht (dispatch_bounded s)
    | completion m => exact unlessHeld_bounded ht (complete_bounded s m)
    | completionTimeout k => exact unlessHeld_bounded ht (timeOut_bounded s k)
    | linkUp => exact unlessHeld_bounded ht (.of_eq rfl rfl rfl rfl)
    | linkDown => exact unlessHeld_bounded ht (signalDown_bounded s)
    | reservationExpiry k => exact unlessHeld_bounded ht (expireReservation_bounded s k)
    | guardExpiry g => exact unlessHeld_bounded ht (expireGuard_bounded s g)
    | bankRecoveryExpiry b => exact unlessHeld_bounded ht (expireRecovery_bounded s b)
    | goOnline args => exact unlessHeld_bounded ht ((goOnline_bounded s).endCommand 1 _)
    | drain args => exact unlessHeld_bounded ht ((drain_bounded s).endCommand 2 _)
    | fullReset args => exact unlessHeld_bounded ht ((fullReset_bounded s).endCommand 3 .done)
    | portReset args => exact unlessHeld_bounded ht ((commandPortReset_bounded s args).endCommand 4 _)
    | linkReset args =>
      have hsent : Bounded s (s.send .linkReset) := .of_eq rfl rfl rfl rfl
      exact unlessHeld_bounded ht ((hsent.trans (signalDown_bounded _)).endCommand 5 .done)
    | clearFault args => exact unlessHeld_bounded ht ((clearFault_bounded s _).endCommand 6 _)
    | clearAllFaults args => exact unlessHeld_bounded ht ((clearAllFaults_bounded s).endCommand 7 .done)
    | unknownCommand code args =>
      rw [exec_unknownCommand_eq hwf] at ht
      exact unlessHeld_bounded ht ((Bounded.refl s).endCommand code .badArgument)
    | configurationWrite w v => exact unlessHeld_bounded ht (writeConfiguration_bounded s w v)
    | noticeMaskWrite v => exact unlessHeld_bounded ht (.of_eq rfl rfl rfl rfl)
    | readOutSelectorWrite v => exact unlessHeld_bounded ht (writeSelector_bounded s v)
    | noticeHeadRead n => exact unlessHeld_bounded ht (readFrame_bounded s 16 n)
    | noticeStatusRead n => exact unlessHeld_bounded ht (readFrame_bounded s 18 n)
    | registerWrite w v => exact unlessHeld_bounded ht (writeOther_bounded s w v)
    | badAddress op address =>
      rw [exec_badAddress_eq hwf] at ht
      exact unlessHeld_bounded ht (.of_eq rfl rfl rfl rfl)

theorem step_bounded {s t : State} (ht : step s = .next t) : Bounded s t := by
  unfold step at ht
  split at ht
  · rename_i c rest _
    exact Bounded.trans (t := { s with pending := rest }) (.of_eq rfl rfl rfl rfl) (exec_bounded ht)
  · rcases s.nextFrame_cases with ⟨f, rest, -, -, hf⟩ | ⟨-, hf⟩
    · have hrest : Bounded s { s with frames := rest } := .of_eq rfl rfl rfl rfl
      rw [hf] at ht
      cases hd : decodeFrame f with
      | command c => rw [hd] at ht; exact hrest.trans (exec_bounded ht)
      | quiet q => rw [hd] at ht; cases ht; exact hrest.trans (quietFrame_bounded _ q)
    · rw [hf] at ht
      refine unlessHeld_bounded ht ?_
      split
      · exact takeFromWires_bounded s _
      · exact .refl s

/-- Settles O51: every step keeps each of the four bounds, whatever the other three are. -/
theorem stepKeepsCollectionLaws : Obligations.StepKeepsCollectionLaws :=
  ⟨fun _ _ hs ht => (step_bounded ht).notices hs, fun _ _ hs ht => (step_bounded ht).faults hs,
    fun _ _ hs ht => (step_bounded ht).responses hs, fun _ _ hs ht => (step_bounded ht).grants hs⟩

end Sys2Proof.Machine
end

section
namespace Sys2Proof.Machine

open Sys2Proof

/-! ## The fields of a word (R165, R167) -/

/-- The bits of a word taken out as a bit vector are its field of the same bits. -/
theorem extractLsb'_toNat (v : Word) (lo n : Nat) : (v.extractLsb' lo (n + 1)).toNat = field v (lo + n) lo := by
  have hwidth : lo + n + 1 - lo = n + 1 := by omega
  rw [BitVec.extractLsb'_toNat, field, hwidth, Nat.shiftRight_eq_div_pow]

theorem ofNat_field (v : Word) (lo n : Nat) : BitVec.ofNat (n + 1) (field v (lo + n) lo) = v.extractLsb' lo (n + 1) := by
  rw [← extractLsb'_toNat, BitVec.ofNat_toNat, BitVec.setWidth_eq]

/-- A field holds the bits of its word from its lowest on. -/
theorem testBit_field (v : Word) (hi lo j : Nat) :
    (field v hi lo).testBit j = (decide (lo + j ≤ hi) && v.getLsbD (lo + j)) := by
  have hrange : j < hi + 1 - lo ↔ lo + j ≤ hi := by omega
  simp only [field, Nat.testBit_mod_two_pow, Nat.testBit_div_two_pow, BitVec.testBit_toNat, hrange, Nat.add_comm j lo]

theorem getLsbD_place (n lo i : Nat) :
    (place n lo).getLsbD i = (decide (i < 32) && (decide (lo ≤ i) && n.testBit (i - lo))) := by
  simp only [place, BitVec.getLsbD_ofNat, Nat.testBit_mul_two_pow]

theorem field_or (v w : Word) (hi lo : Nat) : field (v ||| w) hi lo = field v hi lo ||| field w hi lo := by
  apply Nat.eq_of_testBit_eq
  intro j
  simp only [testBit_field, Nat.testBit_or, BitVec.getLsbD_or, Bool.and_or_distrib_left]

/-- The field of a placed number that begins where the number was placed, or above. -/
theorem field_place {n lo hi k : Nat} (hhi : hi < 32) (hle : lo ≤ k) :
    field (place n lo) hi k = n / 2 ^ (k - lo) % 2 ^ (hi + 1 - k) := by
  apply Nat.eq_of_testBit_eq
  intro j
  have hplace : lo ≤ k + j := by omega
  have hsub : k + j - lo = j + (k - lo) := by omega
  have hrange : j < hi + 1 - k ↔ k + j ≤ hi := by omega
  simp only [testBit_field, getLsbD_place, Nat.testBit_mod_two_pow, Nat.testBit_div_two_pow, hplace, hsub, hrange,
    decide_true, Bool.true_and]
  by_cases h : k + j ≤ hi
  · have hlt : k + j < 32 := by omega
    simp [h, hlt]
  · simp [h]

/-- A number placed within a field is the field. -/
theorem field_place_self {n lo hi : Nat} (hn : n < 2 ^ (hi + 1 - lo)) (hhi : hi < 32) : field (place n lo) hi lo = n := by
  rw [field_place hhi le_rfl, Nat.sub_self, pow_zero, Nat.div_one, Nat.mod_eq_of_lt hn]

/-- A number placed below a field, and too small to reach it, leaves it 0. -/
theorem field_place_below {n lo hi k : Nat} (hn : n < 2 ^ (k - lo)) (hhi : hi < 32) (hle : lo ≤ k) :
    field (place n lo) hi k = 0 := by
  rw [field_place hhi hle, Nat.div_eq_of_lt hn, Nat.zero_mod]

/-- A number placed above a field leaves it 0. -/
theorem field_place_above {n lo hi k : Nat} (h : hi < lo) : field (place n lo) hi k = 0 := by
  apply Nat.eq_of_testBit_eq
  intro j
  rw [testBit_field, getLsbD_place, Nat.zero_testBit]
  by_cases hj : k + j ≤ hi
  · have hlt : ¬ lo ≤ k + j := by omega
    simp [hlt]
  · simp [hj]

theorem field_shiftLeft_below {v : Word} {hi lo w : Nat} (h : hi < w) : field (v <<< w) hi lo = 0 := by
  apply Nat.eq_of_testBit_eq
  intro j
  rw [testBit_field, BitVec.getLsbD_shiftLeft, Nat.zero_testBit]
  by_cases hj : lo + j ≤ hi
  · have hlt : lo + j < w := by omega
    simp [hlt]
  · simp [hj]

theorem field_shiftLeft {v : Word} {hi lo w : Nat} (hhi : hi + w < 32) :
    field (v <<< w) (hi + w) (lo + w) = field v hi lo := by
  apply Nat.eq_of_testBit_eq
  intro j
  have hrange : lo + w + j ≤ hi + w ↔ lo + j ≤ hi := by omega
  have hsub : lo + w + j - w = lo + j := by omega
  have hge : ¬ lo + w + j < w := by omega
  simp only [testBit_field, BitVec.getLsbD_shiftLeft, hrange, hsub, hge]
  by_cases hj : lo + j ≤ hi
  · have hlt : lo + w + j < 32 := by omega
    simp [hlt]
  · simp [hj]

/-- A field of the record at position i of a packed word, from bit k to bit h of the record's bits (R172). -/
theorem field_packed {w : Nat} {l : List Nat} (hl : ∀ n ∈ l, n < 2 ^ w) {i : Nat} (hi : i < l.length)
    (hw : w * i + w ≤ 32) {h k : Nat} (hh : h < w) :
    field (packed w l) (w * i + h) (w * i + k) = l[i] / 2 ^ k % 2 ^ (h + 1 - k) := by
  induction l generalizing i with
  | nil => cases hi
  | cons n rest ih =>
    rw [packed, field_or]
    cases i with
    | zero =>
      rw [Nat.mul_zero, Nat.zero_add, Nat.zero_add, field_shiftLeft_below hh, Nat.or_zero,
        field_place (by omega) (Nat.zero_le _)]
      rfl
    | succ i =>
      have hnext : w * (i + 1) = w * i + w := Nat.mul_succ w i
      have hshift : ∀ j, w * (i + 1) + j = w * i + j + w := fun j => by omega
      have hroom : w * i + h + w < 32 := by omega
      have hn : n < 2 ^ (w * (i + 1) + k - 0) :=
        (hl n (.head _)).trans_le (Nat.pow_le_pow_right Nat.two_pos (by omega))
      rw [field_place_below hn (by omega) (Nat.zero_le _), Nat.zero_or, hshift h, hshift k, field_shiftLeft hroom,
        ih (fun m hm => hl m (.tail _ hm)) (by simpa using hi) (by omega)]
      rfl

/-- The whole record at position i of a packed word. -/
theorem field_packed_record {w : Nat} {l : List Nat} (hl : ∀ n ∈ l, n < 2 ^ w) {i : Nat} (hi : i < l.length)
    (hw : w * i + w ≤ 32) {h : Nat} (hh : h + 1 = w) : field (packed w l) (w * i + h) (w * i) = l[i] := by
  have hrecord : l[i] < 2 ^ (h + 1) := hh ▸ hl _ (List.getElem_mem hi)
  have hfield := field_packed hl hi hw (h := h) (k := 0) (by omega)
  rwa [pow_zero, Nat.div_one, Nat.sub_zero, Nat.mod_eq_of_lt hrecord] at hfield

/-- A packed word holds nothing above its records. -/
theorem field_packed_above {w : Nat} {l : List Nat} (hl : ∀ n ∈ l, n < 2 ^ w) {hi lo : Nat} (hhi : hi < 32)
    (hle : lo ≤ hi) (hlo : w * l.length ≤ lo) : field (packed w l) hi lo = 0 := by
  induction l generalizing hi lo with
  | nil => simp [packed, field]
  | cons n rest ih =>
    have hlen : w * (n :: rest).length = w * rest.length + w := Nat.mul_succ w rest.length
    obtain ⟨lo, rfl⟩ : ∃ k, lo = k + w := ⟨lo - w, by omega⟩
    obtain ⟨hi, rfl⟩ : ∃ k, hi = k + w := ⟨hi - w, by omega⟩
    have hn : n < 2 ^ (lo + w - 0) := (hl n (.head _)).trans_le (Nat.pow_le_pow_right Nat.two_pos (by omega))
    rw [packed, field_or, field_place_below hn hhi (Nat.zero_le _), field_shiftLeft hhi, Nat.zero_or]
    exact ih (fun m hm => hl m (.tail _ hm)) (by omega) (by omega) (by omega)

/-- A field put back in its place is the word within the field's bits (R168). -/
theorem place_field (v : Word) (hi lo : Nat) : place (field v hi lo) lo = v &&& place (2 ^ (hi + 1 - lo) - 1) lo := by
  apply BitVec.eq_of_getLsbD_eq
  intro i hi32
  rw [BitVec.getLsbD_and, getLsbD_place, getLsbD_place, testBit_field, Nat.testBit_two_pow_sub_one]
  by_cases hlo : lo ≤ i
  · have hsum : lo + (i - lo) = i := by omega
    have hrange : i - lo < hi + 1 - lo ↔ i ≤ hi := by omega
    simp only [hsum, hrange, hi32, hlo, decide_true, Bool.true_and, Bool.and_comm]
  · simp [hlo]

theorem field_bit (v : Word) (i : Nat) : field v i i = (v.getLsbD i).toNat := by
  have hone : i + 1 - i = 1 := by omega
  rw [field, hone, BitVec.getLsbD, Nat.toNat_testBit, pow_one]

/-- A bit put back in its place is the word within that bit. -/
theorem flag_getLsbD (v : Word) (i : Nat) : flag (v.getLsbD i) i = v &&& place (2 ^ (i + 1 - i) - 1) i := by
  rw [flag, ← field_bit, place_field]

/-- Two placed numbers, the lower small enough not to reach the upper, stand side by side. -/
theorem place_or_toNat {n m lo : Nat} (hn : n < 2 ^ lo) (hm : m * 2 ^ lo + n < 2 ^ 32) :
    (place n 0 ||| place m lo).toNat = n + m * 2 ^ lo := by
  rw [BitVec.toNat_or, place, place, BitVec.toNat_ofNat, BitVec.toNat_ofNat, Nat.mod_eq_of_lt (by omega),
    Nat.mod_eq_of_lt (by omega), pow_zero, Nat.mul_one, Nat.or_comm, ← Nat.shiftLeft_eq,
    ← Nat.shiftLeft_add_eq_or_of_lt hn, Nat.add_comm]

/-- The line of a read-out: bits 33–32 from the descriptor, the rest from the line word (R167). -/
theorem line_of_words {d : Word} {l : Line} (hd : field d 31 30 = l.toNat / 2 ^ 32) :
    d.extractLsb' 30 2 ++ l.extractLsb' 0 32 = l := by
  have hhigh : (d.extractLsb' 30 2).toNat = l.toNat / 2 ^ 32 := (extractLsb'_toNat d 30 1).trans hd
  have hlow : (l.extractLsb' 0 32).toNat = l.toNat % 2 ^ 32 := by rw [BitVec.extractLsb'_toNat, Nat.shiftRight_zero]
  apply BitVec.eq_of_toNat_eq
  rw [BitVec.toNat_append, ← Nat.shiftLeft_add_eq_or_of_lt (BitVec.isLt _), Nat.shiftLeft_eq, hhigh, hlow]
  exact Nat.div_add_mod' _ _

end Sys2Proof.Machine
end

section
namespace Sys2Proof.Machine

open Sys2Proof

/-! ## From the bytes of a frame to its command (R165, R166, R169) -/

/-- The command of a command word, by its bits 31 to 24. -/
theorem commandOfWord_eq (v : Word) :
    commandOfWord v =
      if field v 31 24 = 1 then .goOnline (v.extractLsb' 0 24)
      else if field v 31 24 = 2 then .drain (v.extractLsb' 0 24)
      else if field v 31 24 = 3 then .fullReset (v.extractLsb' 0 24)
      else if field v 31 24 = 4 then .portReset (v.extractLsb' 0 24)
      else if field v 31 24 = 5 then .linkReset (v.extractLsb' 0 24)
      else if field v 31 24 = 6 then .clearFault (v.extractLsb' 0 24)
      else if field v 31 24 = 7 then .clearAllFaults (v.extractLsb' 0 24)
      else .unknownCommand (v.extractLsb' 24 8) (v.extractLsb' 0 24) := by
  have hcode : (v.extractLsb' 24 8).toNat = field v 31 24 := extractLsb'_toNat v 24 7
  unfold commandOfWord
  rw [hcode]
  generalize field v 31 24 = code
  dsimp only
  split
  case h_8 =>
    simp only [imp_false] at *
    simp only [*, if_false]
  all_goals rfl

theorem decodeWrite_of_short (a : Byte) {data : List Byte} (h : data.length < 4) :
    decodeWrite a data = .quiet .cutShort := by
  match data, h with
  | [], _ => rfl
  | [_], _ => rfl
  | [_, _], _ => rfl
  | [_, _, _], _ => rfl

/-- Settles O46: the four data bytes are those of the word, most significant first. -/
theorem commandWordSelectsTheCommand : Obligations.CommandWordSelectsTheCommand := by
  intro v extra args frame
  have hframe : frame = writeFrameOf 2 v := by
    simp only [frame, writeFrameOf, bytesOf, ofNat_field v 24 7, ofNat_field v 16 7, ofNat_field v 8 7, ofNat_field v 0 7]
  refine ⟨?_, fun a data hshort => decodeWrite_of_short a hshort⟩
  rw [hframe, decodeFrame_writeFrame]
  exact congrArg Frame.command (commandOfWord_eq v)

/-! ## Frames and commands (R165, R166, R167, R169) -/

theorem writeCommand_outside {a : Byte} (h : 30 ≤ a.toNat) (v : Word) : writeCommand a v = .badAddress 2 a := by
  unfold writeCommand
  split
  case h_31 => rfl
  all_goals omega

theorem decodeRead_outside {a : Byte} {n : Nat} (h : 30 ≤ a.toNat) (hn : 4 ≤ n) :
    decodeRead a n = .command (.badAddress 1 a) := by
  unfold decodeRead
  split
  case h_3 => exact if_pos ⟨h, hn⟩
  all_goals omega

theorem writeCommand_two (v : Word) : writeCommand 2 v = commandOfWord v := rfl

theorem writeCommand_config (w : ConfigWord) (v : Word) : writeCommand w.address v = .configurationWrite w v := by
  cases w with
  | port p => fin_cases p <;> rfl
  | _ => rfl

theorem writeCommand_other (w : OtherWord) (v : Word) : writeCommand w.address v = .registerWrite w v := by
  cases w <;> rfl

/-- A code that takes no command selects none of the seven. -/
theorem commandOfWord_unknown {code : Byte} (h : isUnknownCode code = true) (args : CommandArguments) :
    commandOfWord (code ++ args) = .unknownCommand code args := by
  have hcode : code.toNat = 0 ∨ 8 ≤ code.toNat := by
    rcases (isUnknownCode_iff code).mp h with rfl | h8
    · exact .inl rfl
    · exact .inr h8
  unfold commandOfWord
  rw [extract_code, extract_args]
  dsimp only
  split
  case h_8 => rfl
  all_goals omega

theorem writeCommand_wellFormed (a : Byte) (v : Word) : (writeCommand a v).wellFormed = true := by
  unfold writeCommand
  split
  case h_3 =>
    unfold commandOfWord
    dsimp only
    split
    case h_8 =>
      simp only [imp_false] at *
      refine (isUnknownCode_iff _).mpr ?_
      rw [← BitVec.toNat_inj]
      change _ = 0 ∨ _
      omega
    all_goals rfl
  case h_31 =>
    simp only [imp_false] at *
    refine (isBadFrame_iff 2 a).mpr (.inr ?_)
    omega
  all_goals rfl

/-- A command that has a frame is a read of a notice word, a frame that no word takes, or the command that the address
and the value of its write frame select. -/
theorem frameOf_cases {c : Instr} {f : List Byte} (hwf : c.wellFormed = true) (hf : frameOf c = some f) :
    (∃ a v, f = writeFrameOf a v ∧ writeCommand a v = c) ∨
    (∃ n, c = .noticeHeadRead n ∧ f = 1 :: 16 :: List.replicate n 0) ∨
    (∃ n, c = .noticeStatusRead n ∧ f = 1 :: 18 :: List.replicate n 0) ∨
    ∃ op a, c = .badAddress op a ∧ isBadFrame op a = true ∧ f = [op, a, 0, 0, 0, 0] := by
  cases c with
  | goOnline args | drain args | fullReset args | portReset args | linkReset args | clearFault args | clearAllFaults args =>
    cases hf
    refine .inl ⟨2, _, rfl, ?_⟩
    simp only [writeCommand_two, commandOfWord, extract_code, extract_args]
    rfl
  | unknownCommand code args => cases hf; exact .inl ⟨2, _, rfl, commandOfWord_unknown hwf args⟩
  | configurationWrite w v => cases hf; exact .inl ⟨_, _, rfl, writeCommand_config w v⟩
  | noticeMaskWrite v => cases hf; exact .inl ⟨19, v, rfl, rfl⟩
  | readOutSelectorWrite v => cases hf; exact .inl ⟨20, v, rfl, rfl⟩
  | registerWrite w v => cases hf; exact .inl ⟨_, _, rfl, writeCommand_other w v⟩
  | noticeHeadRead n => cases hf; exact .inr (.inl ⟨n, rfl, rfl⟩)
  | noticeStatusRead n => cases hf; exact .inr (.inr (.inl ⟨n, rfl, rfl⟩))
  | badAddress op a => cases hf; exact .inr (.inr (.inr ⟨op, a, rfl, hwf, rfl⟩))
  | _ => cases hf

/-- A frame outside the window or of a bad operation is one once four data bytes have been shifted (R166). -/
theorem decodeFrame_badAddress {op a : Byte} (h : isBadFrame op a = true) (extra : List Byte) :
    decodeFrame ([op, a, 0, 0, 0, 0] ++ extra) = .command (.badAddress op a) := by
  have hbad := (isBadFrame_iff op a).mp h
  have hlen : 4 ≤ ([0, 0, 0, 0] ++ extra : List Byte).length := by simp
  simp only [List.cons_append, List.nil_append, decodeFrame]
  split
  · subst op
    exact decodeRead_outside (by simpa using hbad) hlen
  · split
    · subst op
      exact congrArg Frame.command (writeCommand_outside (by simpa using hbad) _)
    · exact if_pos hlen

theorem decodeRead_wellFormed {a : Byte} {n : Nat} {c : Instr} (h : decodeRead a n = .command c) :
    c.wellFormed = true := by
  unfold decodeRead at h
  split at h
  · cases h; rfl
  · cases h; rfl
  · split at h
    · rename_i hout
      cases h
      exact (isBadFrame_iff 1 a).mpr (.inr hout.1)
    · cases h

theorem decodeWrite_wellFormed {a : Byte} {data : List Byte} {c : Instr} (h : decodeWrite a data = .command c) :
    c.wellFormed = true := by
  unfold decodeWrite at h
  split at h
  · cases h; exact writeCommand_wellFormed a _
  all_goals cases h

theorem decodeFrame_wellFormed {bytes : List Byte} {c : Instr} (h : decodeFrame bytes = .command c) :
    c.wellFormed = true := by
  unfold decodeFrame at h
  split at h
  · cases h
  · cases h
  · split at h
    · exact decodeRead_wellFormed h
    · rename_i hread
      split at h
      · exact decodeWrite_wellFormed h
      · rename_i hwrite
        split at h
        · cases h; exact (isBadFrame_iff _ _).mpr (.inl ⟨hread, hwrite⟩)
        · cases h

/-- Settles O45: a frame is decoded by its operation byte and its address, and a code or an address that selects no other
command is one that UNKNOWN_COMMAND or BAD_ADDRESS may carry. -/
theorem framesDecodeToTheirCommands : Obligations.FramesDecodeToTheirCommands := by
  refine ⟨fun c f extra hwf hf => ?_, fun bytes c hd => ?_⟩
  · rcases frameOf_cases hwf hf with ⟨a, v, rfl, rfl⟩ | ⟨n, rfl, rfl⟩ | ⟨n, rfl, rfl⟩ | ⟨op, a, rfl, hbad, rfl⟩
    · have hframe := decodeFrame_writeFrame a v
      exact ⟨(by simpa using hframe []), fun _ => hframe extra⟩
    · refine ⟨?_, fun hne => absurd rfl (hne n).1⟩
      exact congrArg (fun k => Frame.command (.noticeHeadRead k)) List.length_replicate
    · refine ⟨?_, fun hne => absurd rfl (hne n).2⟩
      exact congrArg (fun k => Frame.command (.noticeStatusRead k)) List.length_replicate
    · exact ⟨decodeFrame_badAddress hbad [], fun _ => decodeFrame_badAddress hbad extra⟩
  · exact decodeFrame_wellFormed hd

end Sys2Proof.Machine
end

section
namespace Sys2Proof.Machine

open Sys2Proof

/-! ## The configuration words in the window (R167, R168) -/

theorem configWord_address_toNat (w : ConfigWord) :
    w.address.toNat =
      match w with
      | .memorySize => 5
      | .port p => 6 + p.val
      | .banks => 12
      | .lifetimes => 13
      | .completionTimeout => 14
      | .scheduling => 15 := by
  cases w with
  | port p => fin_cases p <;> rfl
  | _ => rfl

theorem wordAt_config (s : State) (w : ConfigWord) : s.wordAt w.address = s.config.word w := by
  cases w with
  | port p => fin_cases p <;> rfl
  | _ => rfl

/-- The stored bank count has the code that was written, unless that code is 3 (R83, R168). -/
theorem BankCount.code_stored {n : Nat} (hlt : n < 4) (hne : n ≠ 3) :
    (if n = 0 then BankCount.eight else if n = 1 then .sixteen else .thirtyTwo).code = n := by
  split
  · subst n; rfl
  · split
    · subst n; rfl
    · change 2 = n
      omega

/-- The bits that a configuration word names (R167). -/
def namedBits : ConfigWord → Word
  | .memorySize => 0x0000003F#32
  | .port _ => 0x00003F03#32
  | .banks => 0x003F1F13#32
  | .lifetimes => 0x03FF03FF#32
  | .completionTimeout => 0x0000FFFF#32
  | .scheduling => 0x00000F1F#32

/-- A word in range reads back within the bits it names, once it is stored (R168). -/
theorem stored_word_self (c : Configuration) {w : ConfigWord} {v : Word} (h : FieldsInRange w v) :
    (c.stored w v).word w = v &&& namedBits w := by
  cases w with
  | memorySize => exact place_field v 5 0
  | port p =>
    have hstrict : ((if v.getLsbD 1 then PortOrder.strict else .line) == .strict) = v.getLsbD 1 := by
      cases v.getLsbD 1 <;> rfl
    simp only [Configuration.word, Configuration.stored, vector_set_get, if_true, hstrict, flag_getLsbD, place_field,
      ← BitVec.and_or_distrib_left]
    rfl
  | banks =>
    obtain ⟨hcount, -⟩ := h
    have hcode := BankCount.code_stored (field_lt v 1 0) hcount
    have hfolded : ((if v.getLsbD 4 then BankMapping.folded else .linear) == .folded) = v.getLsbD 4 := by
      cases v.getLsbD 4 <;> rfl
    simp only [Configuration.word, Configuration.stored, hcode, hfolded, flag_getLsbD, place_field,
      ← BitVec.and_or_distrib_left]
    rfl
  | lifetimes =>
    simp only [Configuration.word, Configuration.stored, place_field, ← BitVec.and_or_distrib_left]
    rfl
  | completionTimeout => exact place_field v 15 0
  | scheduling =>
    simp only [Configuration.word, Configuration.stored, place_field, ← BitVec.and_or_distrib_left]
    rfl

/-- The selector's word: the class code in the low bits, the index from bit 8 (R171). -/
theorem wordAt_selector (s : State) :
    (s.wordAt 20).toNat = s.mgmt.selectorClass.code + s.mgmt.selectorIndex.toNat * 2 ^ 8 := by
  have hclass : s.mgmt.selectorClass.code < 5 := by cases s.mgmt.selectorClass <;> decide
  have hindex : s.mgmt.selectorIndex.toNat < 2 ^ 5 := s.mgmt.selectorIndex.isLt
  exact place_or_toNat (by omega) (by omega)

/-- Settles O41: what a write stores is the word in range, and each of its fields is put back in its own bits. -/
theorem storedConfigurationReadsBack : Obligations.StoredConfigurationReadsBack := by
  refine ⟨fun s w => ⟨wordAt_config s w, configWord_address_toNat w⟩, fun s => ⟨rfl, rfl, rfl, ?_⟩, fun c d w v hwrite => ?_⟩
  · rw [wordAt_selector]
    cases s.mgmt.selectorClass <;> rfl
  · have hw : FieldsInRange w v := by
      by_contra hout
      rw [c.write_of_not_inRange hout] at hwrite
      cases hwrite
    rw [c.write_of_inRange hw] at hwrite
    cases hwrite
    rw [stored_word_self c hw]
    cases w <;> rfl

end Sys2Proof.Machine
end

section
namespace Sys2Proof.Machine

open Sys2Proof

/-! ## Reads (R164, R165, R166, R171, R172, R175) -/

/-- The status held after a read frame with n data bytes: its own once it is complete, else the one before it. -/
def statusAfterRead (n : Nat) (before own : FrameStatus) : FrameStatus := if 4 ≤ n then own else before

/-- What is shifted out does not change what reading a word does. -/
theorem readEffect_shiftOut (s : State) (a : Byte) (data : List Byte) :
    (s.shiftOut data).readEffect a =
      { s.readEffect a with frameOut := s.frameOut ++ [⟨s.mgmt.frameStatus, data⟩] } := by
  have hpop : (s.shiftOut data).popNotice =
      { s.popNotice with frameOut := s.frameOut ++ [⟨s.mgmt.frameStatus, data⟩] } := by
    cases h : s.notices.entries <;> simp only [State.popNotice, State.shiftOut, h]
  unfold State.readEffect
  split
  · exact hpop
  · rfl
  · rfl

/-- A read frame shifts out the bytes of its word and leaves its status, beside the effect of reading the word. -/
theorem readFrame_effect (s : State) (a : Byte) (n : Nat) :
    s.readFrame a n =
      { s.readEffect a with
        frameOut := s.frameOut ++ [⟨s.mgmt.frameStatus, (bytesOf (s.wordAt a)).take n⟩]
        mgmt := { (s.readEffect a).mgmt with
          frameStatus := statusAfterRead n (s.readEffect a).mgmt.frameStatus (readStatus a) } } := by
  unfold State.readFrame statusAfterRead
  rw [readEffect_shiftOut]
  dsimp only
  split <;> rfl

theorem readEffect_of_quiet {a : Byte} (h16 : a ≠ 16) (h18 : a ≠ 18) (s : State) : s.readEffect a = s := by
  unfold State.readEffect
  split
  next h => exact absurd (BitVec.eq_of_toNat_eq h) h16
  next h => exact absurd (BitVec.eq_of_toNat_eq h) h18
  next => rfl

theorem wordAt_outside {a : Byte} (h : 30 ≤ a.toNat) (s : State) : s.wordAt a = 0 := by
  unfold State.wordAt
  split
  case h_31 => rfl
  all_goals omega

/-- Settles O44: reading a word has an effect for the notice head and the notice status alone. -/
theorem quietReadsChangeNoBlock : Obligations.QuietReadsChangeNoBlock := by
  intro s a n h16 h18
  refine ⟨?_, rfl, ?_, rfl, fun hout => wordAt_outside hout s, rfl⟩
  · change s.readFrame a n = _
    rw [readFrame_effect, readEffect_of_quiet h16 h18]
    simp only [statusAfterRead, readStatus, ← Nat.not_lt, ite_not]
  · have hzero : bytesOf 0 = List.replicate 4 0 := rfl
    change s.shiftOut ((bytesOf 0).take n) = _
    rw [hzero, List.take_replicate]
    rfl

/-! ## The notice words (R173, R175, R177) -/

theorem readEffect_head_of_nil {s : State} (h : s.notices.entries = []) :
    s.readEffect 16 = { s with mgmt := { s.mgmt with noticeDetail := 0 } } := by
  change s.popNotice = _
  simp only [State.popNotice, h]

theorem readEffect_head_of_cons {s : State} {e : Notice} {rest : List Notice} (h : s.notices.entries = e :: rest) :
    s.readEffect 16 =
      { s with
        notices := { s.notices with entries := rest }
        mgmt := { s.mgmt with noticeDetail := e.detail.word } } := by
  change s.popNotice = _
  simp only [State.popNotice, h]

theorem wordAt_head_of_nil {s : State} (h : s.notices.entries = []) : s.wordAt 16 = 0 := by
  change (match s.notices.entries with | [] => 0 | n :: _ => n.headWord) = _
  rw [h]

theorem wordAt_head_of_cons {s : State} {e : Notice} {rest : List Notice} (h : s.notices.entries = e :: rest) :
    s.wordAt 16 = e.headWord := by
  change (match s.notices.entries with | [] => 0 | n :: _ => n.headWord) = _
  rw [h]

theorem NoticeKind.code_lt (k : NoticeKind) : k.code < 16 := by cases k <;> decide

theorem noticePortCode_lt (p : Option Port) : noticePortCode p < 8 := by
  cases p with
  | none => decide
  | some p => exact p.isLt.trans (by decide)

theorem Detail.refusalCode_lt (d : Detail) : d.refusalCode < 4 := by
  unfold Detail.refusalCode; split <;> decide

theorem line_high_lt (l : Line) : l.toNat / 2 ^ 32 < 4 := by
  have := l.isLt
  omega

theorem Detail.lineHigh_lt (d : Detail) : d.lineHigh < 4 := by
  cases d with
  | line l => exact line_high_lt l
  | refusedLine l why => exact line_high_lt l
  | _ => exact Nat.zero_lt_succ 3

/-- The fields of the notice head word, each within its own bits (R175). -/
theorem headWord_fields (n : Notice) (hcount : n.count ≤ 255) :
    field n.headWord 4 0 = n.kind.code ∧ field n.headWord 10 8 = noticePortCode n.port ∧
    field n.headWord 23 16 = n.count ∧ field n.headWord 25 24 = n.detail.refusalCode ∧
    field n.headWord 29 28 = n.detail.lineHigh := by
  have hkind := n.kind.code_lt
  have hport := noticePortCode_lt n.port
  have hrefusal := n.detail.refusalCode_lt
  have hhigh := n.detail.lineHigh_lt
  simp (disch := omega) only [Notice.headWord, field_or, field_place_self, field_place_below, field_place_above,
    Nat.or_zero, Nat.zero_or, and_self]

section Released

variable {s : State} (hpor : s.porAsserted = false)

include hpor

theorem exec_noticeHeadRead (n : Nat) : exec (.noticeHeadRead n) s = .next (s.readFrame 16 n) :=
  congrArg Host.Outcome.next (State.unlessHeld_of_released hpor _)

theorem exec_noticeStatusRead (n : Nat) : exec (.noticeStatusRead n) s = .next (s.readFrame 18 n) :=
  congrArg Host.Outcome.next (State.unlessHeld_of_released hpor _)

/-- ALERT shows whether the queue holds an entry (R177). -/
theorem alert_toNat : s.alert.toNat = if s.notices.entries = [] then 0 else 1 := by
  cases h : s.notices.entries <;> simp [State.alert, hpor, h]

end Released

/-- The fields of the notice status word (R175). -/
theorem noticeStatus_fields {s : State} (hlen : s.notices.entries.length ≤ 16) :
    field (s.wordAt 18) 4 0 = s.notices.entries.length ∧ field (s.wordAt 18) 8 8 = s.notices.overflow.toNat ∧
    field (s.wordAt 18) 9 9 = s.alert.toNat := by
  have hword : s.wordAt 18 =
      place s.notices.entries.length 0 ||| place s.notices.overflow.toNat 8 ||| place s.alert.toNat 9 := rfl
  have hoverflow := s.notices.overflow.toNat_lt
  have halert := s.alert.toNat_lt
  simp (disch := omega) only [hword, field_or, field_place_self, field_place_below, field_place_above,
    Nat.or_zero, Nat.zero_or, and_self]

/-- Settles O43: a read of a notice word is its effect and its status, and each field of the two words lies in its own bits. -/
theorem noticeReadsPopAndClear : Obligations.NoticeReadsPopAndClear := by
  intro s n hpor status shifted
  refine ⟨fun hnil => ⟨wordAt_head_of_nil hnil, ?_⟩, fun e rest hcons => ⟨?_, fun hs => ?_⟩, ?_, rfl, fun hs => ?_, rfl⟩
  · rw [exec_noticeHeadRead hpor, readFrame_effect, readEffect_head_of_nil hnil]
    rfl
  · rw [exec_noticeHeadRead hpor, readFrame_effect, readEffect_head_of_cons hcons]
    cases e.detail <;> rfl
  · obtain ⟨-, -, hcount⟩ := hs
    obtain ⟨hkind, hport, hcounted, hrefusal, hhigh⟩ := headWord_fields e (hcount e (hcons ▸ .head _)).2
    rw [wordAt_head_of_cons hcons]
    refine ⟨hkind, hport.trans ?_, hcounted, hrefusal.trans ?_, hhigh.trans ?_⟩
    · cases e.port <;> rfl
    · cases e.detail with
      | refusedLine l why => cases why <;> rfl
      | _ => rfl
    · cases e.detail <;> rfl
  · rw [exec_noticeStatusRead hpor, readFrame_effect]
    rfl
  · rw [← alert_toNat hpor]
    exact noticeStatus_fields hs.1

/-! ## Writes of the other words, and frames outside the window (R166, R167, R171, R176) -/

section Released

variable {s : State} (hpor : s.porAsserted = false)

include hpor

theorem exec_noticeMaskWrite (v : Word) : exec (.noticeMaskWrite v) s = .next ((s.writeMask v).endFrame .ok []) :=
  congrArg Host.Outcome.next (State.unlessHeld_of_released hpor _)

theorem exec_readOutSelectorWrite (v : Word) : exec (.readOutSelectorWrite v) s = .next (s.writeSelector v) :=
  congrArg Host.Outcome.next (State.unlessHeld_of_released hpor _)

theorem exec_registerWrite (w : OtherWord) (v : Word) : exec (.registerWrite w v) s = .next (s.writeOther w v) :=
  congrArg Host.Outcome.next (State.unlessHeld_of_released hpor _)

theorem exec_badAddress {op a : Byte} (h : (op ≠ 1 ∧ op ≠ 2) ∨ 30 ≤ a.toNat) :
    exec (.badAddress op a) s = .next (s.endFrame .badAddress (bytesOf 0)) := by
  rw [exec_badAddress_eq ((isBadFrame_iff op a).mpr h), State.unlessHeld_of_released hpor]

end Released

theorem ReadOutClass.ofCode_code (c : ReadOutClass) : ReadOutClass.ofCode c.code = some c := by cases c <;> rfl

theorem ReadOutClass.ofCode_of_le {n : Nat} (h : 5 ≤ n) : ReadOutClass.ofCode n = none := by
  unfold ReadOutClass.ofCode
  split
  case h_6 => rfl
  all_goals omega

/-- A selector word names the record of its class and index when the class has the index (R171). -/
theorem selectorOf_of_class {v : Word} {c : ReadOutClass} (hc : field v 2 0 = c.code) :
    selectorOf v = if field v 12 8 < c.size then some (c, v.extractLsb' 8 5) else none := by
  unfold selectorOf
  rw [hc, ReadOutClass.ofCode_code, ← ofNat_field v 8 4]

theorem writeSelector_of_some {v : Word} {c : ReadOutClass} {n : BitVec 5} (h : selectorOf v = some (c, n)) (s : State) :
    s.writeSelector v =
      State.endFrame { s with mgmt := { s.mgmt with selectorClass := c, selectorIndex := n } } .ok [] := by
  simp only [State.writeSelector, h]

theorem writeSelector_of_none {v : Word} (h : selectorOf v = none) (s : State) :
    s.writeSelector v = s.endFrame .denied [] := by
  simp only [State.writeSelector, h]

theorem writeOther_readOnly {w : OtherWord} (h : w ≠ .lineArgument) (s : State) (v : Word) :
    s.writeOther w v = s.endFrame .denied [] := by
  cases w with
  | lineArgument => exact absurd rfl h
  | _ => rfl

/-- Settles O42, word by word; the selector is stored exactly when its class has its index. -/
theorem otherWritesStoreOrAreDenied : Obligations.OtherWritesStoreOrAreDenied := by
  intro s v hpor ended
  refine ⟨exec_noticeMaskWrite hpor v, fun c => ?_, fun c hc hn => ?_, fun hout => ?_,
    exec_registerWrite hpor .lineArgument v, fun w hw => ?_, fun op a hbad => exec_badAddress hpor hbad⟩
  · cases c <;> rfl
  · rw [exec_readOutSelectorWrite hpor, writeSelector_of_some ((selectorOf_of_class hc).trans (if_pos hn))]
    rfl
  · have hnone : selectorOf v = none := by
      rcases hout with hclass | ⟨c, hc, hn⟩
      · simp only [selectorOf, ReadOutClass.ofCode_of_le hclass]
      · exact (selectorOf_of_class hc).trans (if_neg (by omega))
    rw [exec_readOutSelectorWrite hpor, writeSelector_of_none hnone]
    rfl
  · rw [exec_registerWrite hpor, writeOther_readOnly hw]
    rfl

end Sys2Proof.Machine
end

section
namespace Sys2Proof.Machine

open Sys2Proof

/-! ## The summary words (R164, R170, R172) -/

theorem TagRecord.code_lt (t : TagRecord) : t.code < 4 := by unfold TagRecord.code; split <;> decide

theorem BankRecord.code_lt (b : BankRecord) : b.code < 4 := by unfold BankRecord.code; split <;> decide

theorem PortState.code_lt (p : PortState) : p.code < 3 := by cases p <;> decide

theorem PartState.code_lt (p : PartState) : p.code < 4 := by cases p <;> decide

theorem CommandResult.code_lt (r : CommandResult) : r.code < 5 := by cases r <;> decide

theorem wordAt_tags_field (s : State) (t : Tag) :
    field (s.wordAt 25) (2 * t.val + 1) (2 * t.val) = s.tags[t].code := by
  have hcodes : ∀ n ∈ s.tags.toList.map TagRecord.code, n < 2 ^ 2 := fun n hn => by
    obtain ⟨r, -, rfl⟩ := List.mem_map.mp hn
    exact r.code_lt
  refine (field_packed_record (i := t.val) hcodes (by simp) (by omega) rfl).trans ?_
  simp

/-- Sixteen bank records from the one at position k on, packed in one word (R172). -/
theorem packed_banks_field {l : List BankRecord} {i : Nat} (hi : i < l.length) (h16 : i < 16) :
    field (packed 2 (l.map BankRecord.code)) (2 * i + 1) (2 * i) = l[i].code := by
  have hcodes : ∀ n ∈ l.map BankRecord.code, n < 2 ^ 2 := fun n hn => by
    obtain ⟨r, -, rfl⟩ := List.mem_map.mp hn
    exact r.code_lt
  refine (field_packed_record (i := i) hcodes (by simpa using hi) (by omega) rfl).trans ?_
  simp

theorem wordAt_banks_field (s : State) (b : BankNo) :
    field (s.wordAt (if b.val < 16 then 26 else 27)) (2 * (b.val % 16) + 1) (2 * (b.val % 16)) = s.banks[b].code := by
  split
  · rename_i hlow
    rw [Nat.mod_eq_of_lt hlow]
    refine (packed_banks_field (l := s.banks.toList.take 16) (by simpa using hlow) hlow).trans ?_
    simp
  · have hhigh : b.val % 16 = b.val - 16 := by omega
    rw [hhigh]
    refine (packed_banks_field (l := s.banks.toList.drop 16) (i := b.val - 16) (by simp; omega) (by omega)).trans ?_
    have hsum : 16 + (b.val - 16) = b.val := by omega
    simp [hsum]

theorem wordAt_grantOrder_field {s : State} (hs : GrantLaw s) (i : Fin 6) :
    (s.grantOrder[i.val]?).map Fin.val = some (field (s.wordAt 28) (3 * i.val + 2) (3 * i.val)) := by
  have hlen : s.grantOrder.length = 6 := hs.length_eq
  have hports : ∀ n ∈ s.grantOrder.map Fin.val, n < 2 ^ 3 := fun n hn => by
    obtain ⟨p, -, rfl⟩ := List.mem_map.mp hn
    omega
  have hi : i.val < s.grantOrder.length := by omega
  have hfield : field (s.wordAt 28) (3 * i.val + 2) (3 * i.val) = (s.grantOrder.map Fin.val)[i.val]'(by simpa using hi) :=
    field_packed_record (i := i.val) hports (by simpa using hi) (by omega) rfl
  rw [hfield, List.getElem?_eq_getElem hi]
  simp

/-- Each port's byte stands in its word at the port's place (R172). -/
theorem wordAt_ports (s : State) (p : Port) :
    ∃ l : List Port, l[p.val % 3]? = some p ∧ s.wordAt (if p.val < 3 then 23 else 24) = packed 8 (l.map s.portByte) := by
  fin_cases p
  · exact ⟨[0, 1, 2], rfl, rfl⟩
  · exact ⟨[0, 1, 2], rfl, rfl⟩
  · exact ⟨[0, 1, 2], rfl, rfl⟩
  · exact ⟨[3, 4, 5], rfl, rfl⟩
  · exact ⟨[3, 4, 5], rfl, rfl⟩
  · exact ⟨[3, 4, 5], rfl, rfl⟩

/-- No port holds as many entries as its six bits could not show (R1, R161). -/
theorem entryCount_lt {s : State} (ht : TableLaw s) (hc : ConfigurationLaw s) (p : Port) : s.entryCount p < 64 := by
  obtain ⟨-, hquota, -⟩ := ht
  obtain ⟨-, hrange, -⟩ := hc
  have := (hquota p).trans (hrange p).2
  omega

theorem wordAt_ports_fields {s : State} (ht : TableLaw s) (hc : ConfigurationLaw s) (p : Port) :
    field (s.wordAt (if p.val < 3 then 23 else 24)) (8 * (p.val % 3) + 5) (8 * (p.val % 3)) = s.entryCount p ∧
    field (s.wordAt (if p.val < 3 then 23 else 24)) (8 * (p.val % 3) + 7) (8 * (p.val % 3) + 6) =
      s.ports[p].state.code := by
  obtain ⟨l, hp, hword⟩ := wordAt_ports s p
  obtain ⟨hi, hget⟩ := List.getElem?_eq_some_iff.mp hp
  have hcount := entryCount_lt ht hc
  have hbytes : ∀ n ∈ l.map s.portByte, n < 2 ^ 8 := fun n hn => by
    obtain ⟨q, -, rfl⟩ := List.mem_map.mp hn
    have := hcount q
    have := s.ports[q].state.code_lt
    unfold State.portByte
    omega
  have hbyte : (l.map s.portByte)[p.val % 3]'(by simpa using hi) = s.entryCount p + s.ports[p].state.code * 2 ^ 6 := by
    rw [List.getElem_map, hget]; rfl
  have hfield {h k : Nat} (hh : h < 8) := field_packed (k := k) hbytes (i := p.val % 3) (by simpa using hi) (by omega) hh
  have := hcount p
  have := s.ports[p].state.code_lt
  rw [hword]
  refine ⟨(hfield (h := 5) (k := 0) (by decide)).trans ?_, (hfield (h := 7) (k := 6) (by decide)).trans ?_⟩
  all_goals
    rw [hbyte]
    omega

theorem GuardRecord.bne_free_toNat (r : GuardRecord) : (r != .free).toNat = if r = .free then 0 else 1 := by
  cases r <;> rfl

/-- Word 29 shows each guard record in its own bit, below the number of fault records (R172). -/
theorem wordAt_guards_fields {s : State} (hf : FaultLaw s) :
    (∀ g : GuardNo, field (s.wordAt 29) g.val g.val = if s.guards[g] = .free then 0 else 1) ∧
    field (s.wordAt 29) 11 8 = s.faults.length := by
  have hword : s.wordAt 29 =
      packed 1 (allGuards.map fun g => (s.guards[g] != .free).toNat) ||| place s.faults.length 8 := rfl
  have hbits : ∀ n ∈ allGuards.map fun g => (s.guards[g] != .free).toNat, n < 2 ^ 1 := fun n hn => by
    obtain ⟨g, -, rfl⟩ := List.mem_map.mp hn
    exact Bool.toNat_lt _
  have hlen : s.faults.length ≤ 8 := hf.1
  refine ⟨fun g => ?_, ?_⟩
  · have hbit := field_packed_record hbits (i := g.val) (h := 0) (by simp [allGuards]) (by omega) rfl
    rw [Nat.one_mul, Nat.add_zero] at hbit
    rw [hword, field_or, field_place_above (by omega), Nat.or_zero, hbit]
    simp only [allGuards_eq_finRange, List.getElem_map, List.getElem_finRange, Fin.cast_mk, Fin.eta]
    exact s.guards[g].bne_free_toNat
  · rw [hword, field_or, field_packed_above hbits (by decide) (by decide) (by simp [allGuards]), Nat.zero_or,
      field_place_self (by omega) (by decide)]

/-- The part state word: the part state below the link (R164). -/
theorem wordAt_partState_fields (s : State) :
    field (s.wordAt 1) 1 0 = s.partState.code ∧ field (s.wordAt 1) 4 4 = s.link.isUp.toNat := by
  have hword : s.wordAt 1 = place s.partState.code 0 ||| place s.link.isUp.toNat 4 := rfl
  have hpart := s.partState.code_lt
  have hlink := s.link.isUp.toNat_lt
  simp (disch := omega) only [hword, field_or, field_place_self, field_place_below, field_place_above, Nat.or_zero,
    Nat.zero_or, and_self]

/-- The command result word: the result below the code (R170). -/
theorem wordAt_result_fields (s : State) :
    field (s.wordAt 4) 3 0 = s.mgmt.result.code ∧ field (s.wordAt 4) 15 8 = s.mgmt.resultCode.toNat := by
  have hword : s.wordAt 4 = place s.mgmt.result.code 0 ||| place s.mgmt.resultCode.toNat 8 := rfl
  have hresult := s.mgmt.result.code_lt
  have hcode := s.mgmt.resultCode.isLt
  simp (disch := omega) only [hword, field_or, field_place_self, field_place_below, field_place_above, Nat.or_zero,
    Nat.zero_or, and_self]

/-- Settles O48, word by word: each record's code fits its bits, by the laws where the type does not bound it. -/
theorem summaryWordsShowEachRecord : Obligations.SummaryWordsShowEachRecord := by
  intro s ht hc hg hf
  obtain ⟨hguards, hfaults⟩ := wordAt_guards_fields hf
  obtain ⟨hpart, hlink⟩ := wordAt_partState_fields s
  obtain ⟨hresult, hcode⟩ := wordAt_result_fields s
  refine ⟨fun t => (wordAt_tags_field s t).trans ?_, fun b => (wordAt_banks_field s b).trans ?_, wordAt_grantOrder_field hg,
    fun p => ?_, hguards, hfaults, ⟨hpart.trans ?_, hlink.trans ?_⟩, hresult.trans ?_, hcode⟩
  · cases s.tags[t] <;> rfl
  · cases s.banks[b] <;> rfl
  · obtain ⟨hcount, hstate⟩ := wordAt_ports_fields ht hc p
    refine ⟨hcount, hstate.trans ?_⟩
    cases s.ports[p].state <;> rfl
  · cases s.partState <;> rfl
  · cases s.link <;> rfl
  · cases s.mgmt.result <;> rfl

end Sys2Proof.Machine
end

section
namespace Sys2Proof.Machine

open Sys2Proof

/-! ## The read-outs (R133, R171) -/

theorem readOut_of_none {s : State} {d : Word} (h : s.selectedReadOut = (d, none)) : s.wordAt 21 = d ∧ s.wordAt 22 = 0 := by
  change s.descriptorWord = d ∧ s.readOutLineWord = 0
  simp only [State.descriptorWord, State.readOutLineWord, h, and_self]

theorem readOut_of_some {s : State} {d : Word} {l : Line} (h : s.selectedReadOut = (d, some l)) :
    s.wordAt 21 = d ||| place (l.toNat / 2 ^ 32) 30 ∧ s.wordAt 22 = l.extractLsb' 0 32 := by
  change s.descriptorWord = _ ∧ s.readOutLineWord = _
  simp only [State.descriptorWord, State.readOutLineWord, h, and_self]

/-- The read-out words show the selected record: the fields of its descriptor below bit 30, and its line in 34 bits, 0 for
a record without one. -/
theorem readOut_of_selected {s : State} {d : Word} {o : Option Line} (h : s.selectedReadOut = (d, o))
    (hd : field d 31 30 = 0) :
    (∀ hi lo, hi < 30 → field (s.wordAt 21) hi lo = field d hi lo) ∧
    (s.wordAt 21).extractLsb' 30 2 ++ s.wordAt 22 = o.getD 0 := by
  cases o with
  | none =>
    obtain ⟨hdescriptor, hline⟩ := readOut_of_none h
    have hzero : (0 : Line).extractLsb' 0 32 = 0 := rfl
    rw [hdescriptor, hline, ← hzero]
    exact ⟨fun _ _ _ => rfl, line_of_words (l := 0) hd⟩
  | some l =>
    obtain ⟨hdescriptor, hline⟩ := readOut_of_some h
    have hhigh := line_high_lt l
    rw [hdescriptor, hline]
    refine ⟨fun hi lo hhi => ?_, line_of_words ?_⟩
    · rw [field_or, field_place_above hhi, Nat.or_zero]
    · rw [field_or, hd, Nat.zero_or, field_place_self hhigh (by decide)]

/-! ### The record that the selector names -/

theorem selectedReadOut_tag {s : State} (hc : s.mgmt.selectorClass = .tag) {t : Tag}
    (hi : s.mgmt.selectorIndex.toNat = t.val) : s.selectedReadOut = s.tagReadOut s.tags[t] := by
  simp only [State.selectedReadOut, hc, hi, t.isLt, dif_pos]
  rfl

theorem selectedReadOut_reservation {s : State} (hc : s.mgmt.selectorClass = .reservation) {h : Holder}
    (hi : s.mgmt.selectorIndex.toNat = h.val) : s.selectedReadOut = s.reservations[h].readOut := by
  simp only [State.selectedReadOut, hc, hi, h.isLt, dif_pos]
  rfl

theorem selectedReadOut_guard {s : State} (hc : s.mgmt.selectorClass = .guard) {g : GuardNo}
    (hi : s.mgmt.selectorIndex.toNat = g.val) : s.selectedReadOut = s.guardReadOut g := by
  simp only [State.selectedReadOut, hc, hi, g.isLt, dif_pos]

theorem selectedReadOut_fault {s : State} (hc : s.mgmt.selectorClass = .fault) :
    s.selectedReadOut = s.faultReadOut s.mgmt.selectorIndex.toNat := by
  simp only [State.selectedReadOut, hc]

theorem selectedReadOut_bank {s : State} (hc : s.mgmt.selectorClass = .bank) {b : BankNo}
    (hi : s.mgmt.selectorIndex.toNat = b.val) : s.selectedReadOut = s.banks[b].readOut := by
  simp only [State.selectedReadOut, hc, hi, b.isLt, dif_pos]
  rfl

/-! ### Tags (R133) -/

@[simp] theorem flag_false (i : Nat) : flag false i = 0#32 := by simp [flag, place]

@[simp] theorem place_zero (i : Nat) : place 0 i = 0#32 := by simp [place]

/-- The descriptor of a tag record: its state, its port, and the bits of an orphan and of a write. -/
def tagDescriptor (code port : Nat) (orphaned write : Bool) : Word :=
  place code 0 ||| place port 4 ||| flag orphaned 8 ||| flag write 9

/-- The fields of a tag's read-out. -/
theorem readOut_tag {s : State} {code port : Nat} {orphaned write : Bool} {o : Option Line}
    (h : s.selectedReadOut = (tagDescriptor code port orphaned write, o)) (hcode : code < 4) (hport : port < 8) :
    field (s.wordAt 21) 1 0 = code ∧ field (s.wordAt 21) 6 4 = port ∧ field (s.wordAt 21) 8 8 = orphaned.toNat ∧
    field (s.wordAt 21) 9 9 = write.toNat ∧ (s.wordAt 21).extractLsb' 30 2 ++ s.wordAt 22 = o.getD 0 := by
  have horphaned := orphaned.toNat_lt
  have hwrite := write.toNat_lt
  obtain ⟨hfield, hline⟩ := readOut_of_selected h (by
    simp (disch := omega) only [tagDescriptor, flag, field_or, field_place_below, Nat.or_zero])
  rw [hfield 1 0 (by decide), hfield 6 4 (by decide), hfield 8 8 (by decide), hfield 9 9 (by decide), hline]
  simp (disch := omega) only [tagDescriptor, flag, field_or, field_place_self, field_place_below, field_place_above,
    Nat.or_zero, Nat.zero_or, and_self]

theorem tagReadOut_of_entry {s : State} (ha : ArrivalLaw s) {e : Entry} (he : e ∈ s.entries) (i : Nat) :
    s.tagReadOut (.busy e.arrival i) = (tagDescriptor 1 e.port.val e.isOrphaned false, e.line) := by
  simp only [State.tagReadOut, ha.entryAt he, tagDescriptor, TagRecord.code, flag_false, BitVec.or_zero]

theorem tagReadOut_quarantined (s : State) (op : LinkOperation) (l : Line) (p : Port) :
    s.tagReadOut (.quarantined op l p) = (tagDescriptor 2 p.val false (op == .write), some l) := by
  simp only [State.tagReadOut, tagDescriptor, TagRecord.code, flag_false, BitVec.or_zero]

/-- Whatever a tag record holds, its descriptor shows its state in the low bits. -/
theorem tagReadOut_descriptor (s : State) (r : TagRecord) :
    ∃ port orphaned write, port < 8 ∧ (s.tagReadOut r).1 = tagDescriptor r.code port orphaned write := by
  cases r with
  | free => exact ⟨0, false, false, by decide, by simp [State.tagReadOut, tagDescriptor]⟩
  | busy n i =>
    cases h : s.entryAt n with
    | none => exact ⟨0, false, false, by decide, by simp [State.tagReadOut, h, tagDescriptor]⟩
    | some e => exact ⟨e.port.val, e.isOrphaned, false, by omega, by simp [State.tagReadOut, h, tagDescriptor]⟩
  | quarantined op l p => exact ⟨p.val, false, op == .write, by omega, by rw [tagReadOut_quarantined]; rfl⟩

theorem readOut_tagState {s : State} (hc : s.mgmt.selectorClass = .tag) {t : Tag}
    (hi : s.mgmt.selectorIndex.toNat = t.val) : field (s.wordAt 21) 1 0 = s.tags[t].code := by
  obtain ⟨port, orphaned, write, hport, hd⟩ := tagReadOut_descriptor s s.tags[t]
  exact (readOut_tag ((selectedReadOut_tag hc hi).trans (Prod.ext hd rfl)) s.tags[t].code_lt hport).1

theorem isOrphaned_toNat {e : Entry} {t : Tag} (h : e.state = .issued t ∨ e.state = .orphaned t) :
    e.isOrphaned.toNat = if e.state = .orphaned t then 1 else 0 := by
  rcases h with h | h <;> simp [Entry.isOrphaned, h]

/-! ### Reservation records (R48) -/

theorem ReservationState.code_lt (r : ReservationState) : r.code < 4 := by unfold ReservationState.code; split <;> decide

theorem BreakReason.code_lt (why : BreakReason) : why.code < 8 := by cases why <;> decide

/-- The code of the reason for which a record was broken; 0 for a record that is not BROKEN. -/
def ReservationState.whyCode : ReservationState → Nat
  | .idle => 0
  | .live _ _ => 0
  | .broken _ why => why.code

/-- The line of a LIVE or BROKEN record (R27). -/
def ReservationState.lineOf : ReservationState → Option Line
  | .idle => none
  | .live l _ => some l
  | .broken l _ => some l

theorem ReservationState.whyCode_lt (r : ReservationState) : r.whyCode < 8 := by
  cases r with
  | broken l why => exact why.code_lt
  | _ => exact Nat.zero_lt_succ 7

theorem Reservation.readOut_eq (r : Reservation) :
    r.readOut =
      (place r.state.code 0 ||| place r.state.whyCode 4 ||| place r.failures 8, r.state.lineOf) := by
  obtain ⟨st, failures⟩ := r
  cases st <;> simp [Reservation.readOut, ReservationState.whyCode, ReservationState.lineOf]

/-- The fields of a reservation record's read-out. -/
theorem readOut_reservation {s : State} (hc : s.mgmt.selectorClass = .reservation) {h : Holder}
    (hi : s.mgmt.selectorIndex.toNat = h.val) (hfail : s.reservations[h].failures < 16) :
    field (s.wordAt 21) 1 0 = s.reservations[h].state.code ∧
    field (s.wordAt 21) 11 8 = s.reservations[h].failures ∧
    field (s.wordAt 21) 6 4 = s.reservations[h].state.whyCode ∧
    (s.wordAt 21).extractLsb' 30 2 ++ s.wordAt 22 = s.reservations[h].state.lineOf.getD 0 := by
  have hcode := s.reservations[h].state.code_lt
  have hwhy := s.reservations[h].state.whyCode_lt
  obtain ⟨hfield, hline⟩ := readOut_of_selected ((selectedReadOut_reservation hc hi).trans (Reservation.readOut_eq _)) (by
    simp (disch := omega) only [field_or, field_place_below, Nat.or_zero])
  rw [hfield 1 0 (by decide), hfield 11 8 (by decide), hfield 6 4 (by decide), hline]
  simp (disch := omega) only [field_or, field_place_self, field_place_below, field_place_above, Nat.or_zero, Nat.zero_or,
    and_self]

/-! ### Guard records (R67) -/

/-- The fields of an ACTIVE guard record's read-out. -/
theorem readOut_guard {s : State} (hc : s.mgmt.selectorClass = .guard) {g : GuardNo}
    (hi : s.mgmt.selectorIndex.toNat = g.val) {l : Line} {o : Holder} {i : Nat} (hg : s.guards[g] = .active l o i)
    (hlen : (s.deferredList g).length < 128) :
    field (s.wordAt 21) 0 0 = 1 ∧ field (s.wordAt 21) 7 4 = o.val ∧
    field (s.wordAt 21) 22 16 = (s.deferredList g).length ∧ (s.wordAt 21).extractLsb' 30 2 ++ s.wordAt 22 = l := by
  have hselected : s.selectedReadOut =
      (flag true 0 ||| place o.val 4 ||| place (s.deferredList g).length 16, some l) := by
    rw [selectedReadOut_guard hc hi]
    simp only [State.guardReadOut, hg]
  have howner : o.val < 16 := by omega
  obtain ⟨hfield, hline⟩ := readOut_of_selected hselected (by
    simp (disch := omega) only [flag, Bool.toNat_true, field_or, field_place_below, Nat.or_zero])
  rw [hfield 0 0 (by decide), hfield 7 4 (by decide), hfield 22 16 (by decide), hline]
  simp (disch := omega) only [flag, Bool.toNat_true, field_or, field_place_self, field_place_below, field_place_above,
    Nat.or_zero, Nat.zero_or, and_self, Option.getD_some]

/-! ### Positions of the fault list (R82) -/

theorem FaultCause.code_lt (c : FaultCause) : c.code < 8 := by cases c <;> decide

/-- The fields of a fault record's read-out. -/
theorem readOut_fault {s : State} (hc : s.mgmt.selectorClass = .fault) {f : FaultRecord}
    (hf : s.faults[s.mgmt.selectorIndex.toNat]? = some f) :
    field (s.wordAt 21) 0 0 = 1 ∧ field (s.wordAt 21) 6 4 = f.cause.code ∧ field (s.wordAt 21) 10 8 = f.port.val ∧
    (s.wordAt 21).extractLsb' 30 2 ++ s.wordAt 22 = f.line := by
  have hselected : s.selectedReadOut = (flag true 0 ||| place f.cause.code 4 ||| place f.port.val 8, some f.line) := by
    rw [selectedReadOut_fault hc]
    simp only [State.faultReadOut, hf]
  have hcause := f.cause.code_lt
  have hport : f.port.val < 8 := by omega
  obtain ⟨hfield, hline⟩ := readOut_of_selected hselected (by
    simp (disch := omega) only [flag, Bool.toNat_true, field_or, field_place_below, Nat.or_zero])
  rw [hfield 0 0 (by decide), hfield 6 4 (by decide), hfield 10 8 (by decide), hline]
  simp (disch := omega) only [flag, Bool.toNat_true, field_or, field_place_self, field_place_below, field_place_above,
    Nat.or_zero, Nat.zero_or, and_self, Option.getD_some]

/-! ### Bank records (R98) -/

/-- The number of the tag with which a bank is BUSY; 0 for another bank. -/
def BankRecord.tagNumber : BankRecord → Nat
  | .idle => 0
  | .busy t => t.val
  | .recovering _ => 0

theorem BankRecord.tagNumber_lt (b : BankRecord) : b.tagNumber < 16 := by
  cases b with
  | busy t => exact t.isLt.trans (by decide)
  | _ => exact Nat.zero_lt_succ 15

theorem BankRecord.readOut_eq (b : BankRecord) : b.readOut = (place b.code 0 ||| place b.tagNumber 8, none) := by
  cases b <;> simp [BankRecord.readOut, BankRecord.tagNumber]

/-- The fields of a bank record's read-out. -/
theorem readOut_bank {s : State} (hc : s.mgmt.selectorClass = .bank) {b : BankNo}
    (hi : s.mgmt.selectorIndex.toNat = b.val) :
    field (s.wordAt 21) 1 0 = s.banks[b].code ∧ (s.wordAt 21).extractLsb' 30 2 ++ s.wordAt 22 = 0 ∧
    field (s.wordAt 21) 11 8 = s.banks[b].tagNumber := by
  have hcode := s.banks[b].code_lt
  have htag := s.banks[b].tagNumber_lt
  obtain ⟨hfield, hline⟩ := readOut_of_selected ((selectedReadOut_bank hc hi).trans (BankRecord.readOut_eq _)) (by
    simp (disch := omega) only [field_or, field_place_below, Nat.or_zero])
  rw [hfield 1 0 (by decide), hfield 11 8 (by decide), hline]
  simp (disch := omega) only [field_or, field_place_self, field_place_below, field_place_above, Nat.or_zero, Nat.zero_or,
    and_self, Option.getD_none]

/-! ### The read-outs, class by class -/

/-- The failure count of a record fits its four bits (R37, R162). -/
theorem failures_lt {s : State} (hc : ConfigurationLaw s) (hf : FailureLaw s) (h : Holder) :
    s.reservations[h].failures < 16 := by
  obtain ⟨-, -, -, -, -, -, -, -, -, hthreshold⟩ := hc
  have := (hf h).trans hthreshold
  omega

theorem deferredList_length_lt {s : State} (ht : TableLaw s) (g : GuardNo) : (s.deferredList g).length < 128 := by
  have := (List.length_filter_le (fun e => e.state == .deferred g) s.entries).trans ht.1
  exact this.trans_lt (by decide)

/-- Settles O47: each class's descriptor and line, by the state of the record that the selector names. -/
theorem readOutShowsTheSelectedRecord : Obligations.ReadOutShowsTheSelectedRecord := by
  intro s ha ht hc hf hk d line
  refine ⟨fun hclass t hi => ?_, fun hclass h hi => ?_, fun hclass g hi => ?_, fun hclass => ?_, fun hclass b hi => ?_⟩
  case refine_1 =>
    have hselected := selectedReadOut_tag hclass hi
    refine ⟨(readOut_tagState hclass hi).trans ?_, fun hfree => ?_, fun e he l hl hstate => ?_, fun op l p hq => ?_⟩
    · cases s.tags[t] <;> rfl
    · rw [hfree] at hselected
      exact readOut_of_none hselected
    · obtain ⟨i, hbusy⟩ := hk.2 e he t hstate
      rw [hbusy, tagReadOut_of_entry ha he, hl] at hselected
      obtain ⟨-, hport, horphaned, hwrite, hline⟩ := readOut_tag hselected (by decide) (by omega)
      exact ⟨hport, horphaned.trans (isOrphaned_toNat hstate), hwrite, hline⟩
    · rw [hq, tagReadOut_quarantined] at hselected
      obtain ⟨-, hport, horphaned, hwrite, hline⟩ := readOut_tag hselected (by decide) (by omega)
      refine ⟨hport, horphaned, hwrite.trans ?_, hline⟩
      cases op <;> rfl
  case refine_2 =>
    obtain ⟨hstate, hfailures, hwhy, hline⟩ := readOut_reservation hclass hi (failures_lt hc hf h)
    refine ⟨hstate.trans ?_, hfailures, fun hidle => ?_, fun l i hlive => ?_, fun l why hbroken => ?_⟩
    · cases s.reservations[h].state <;> rfl
    · rw [hidle] at hwhy hline
      exact ⟨hwhy, hline⟩
    · rw [hlive] at hwhy hline
      exact ⟨hwhy, hline⟩
    · rw [hbroken] at hwhy hline
      refine ⟨hwhy.trans ?_, hline⟩
      cases why <;> rfl
  case refine_3 =>
    refine ⟨fun hfree => readOut_of_none ((selectedReadOut_guard hclass hi).trans ?_), fun l o i hactive =>
      readOut_guard hclass hi hactive (deferredList_length_lt ht g)⟩
    simp only [State.guardReadOut, hfree]
  case refine_4 =>
    refine ⟨fun f hget => ?_, fun hget => readOut_of_none ((selectedReadOut_fault hclass).trans ?_)⟩
    · obtain ⟨hstate, hcause, hport, hline⟩ := readOut_fault hclass hget
      refine ⟨hstate, hcause.trans ?_, hport, hline⟩
      cases f.cause <;> rfl
    · simp only [State.faultReadOut, hget]
  case refine_5 =>
    obtain ⟨hstate, hline, hnumber⟩ := readOut_bank hclass hi
    refine ⟨hstate.trans ?_, hline, fun t hbusy => ?_, fun hnot => hnumber.trans ?_⟩
    · cases s.banks[b] <;> rfl
    · rw [hbusy] at hnumber
      exact hnumber
    · cases hb : s.banks[b] with
      | busy t => exact absurd hb (hnot t)
      | _ => rfl

end Sys2Proof.Machine
end

/-! # Scope (00_scope.md) -/

section
namespace Sys2Proof.Machine

open Sys2Proof

/-! ## A step with a command waiting -/

/-- With a command waiting, neither the frames at the management link nor the wires of the ports are looked at. -/
theorem step_of_pending_cons {s : State} {c : Instr} {rest : List Instr} (hpending : s.pending = c :: rest) :
    step s = exec c { s with pending := rest } := by
  rw [step, hpending]

/-- Settles O1, by the case of a step in which the queue holds a command. -/
theorem stepRunsFrontCommand : Obligations.StepRunsFrontCommand := fun _ _ _ hpending =>
  step_of_pending_cons hpending

end Sys2Proof.Machine
end
